-- ==== Sys2Proof/Word.lean ====
section
/-! DEFINITION. The word types of the FFADO ISO stream core: bytes of a packet in wire order (R121) and 32-bit
registers, quadlets and cycle-timer values (R41, R170, R173). -/

namespace Sys2Proof

/-- One byte of a packet, of TXB or of RING. -/
abbrev Byte := BitVec 8

/-- A 32-bit register, quadlet or cycle-timer value. -/
abbrev Word := BitVec 32

end Sys2Proof
end

