-- ==== Sys2Proof/Config.lean ====
section
/-! DEFINITION. What an implementation fixes: the parameters of R7 with their defaults and legal ranges, the protocol
constants of R8, and the free values of the bytes that nothing has written (R65, R66, R500). -/

namespace Sys2Proof

/-- `P_WRAP_MODE` (R7, R234): the carry rule of timestamp reconstruction. -/
inductive WrapMode
  | normalised  -- 0, the default
  | literal     -- 1
  deriving DecidableEq, Repr

/-- The implementation parameters of R7, fixed for an instance. -/
structure Params where
  /-- `P_RAM_BYTES`: bytes of ring payload RAM. -/
  ramBytes : Nat
  /-- `P_CAP_MAX`: maximum ring capacity in packets. -/
  capMax : Nat
  /-- `P_MAXPKT_LIMIT`: maximum packet size and the size of TXB in bytes. -/
  maxPktLimit : Nat
  /-- `P_NPORTS`: entries in the port table. -/
  nPorts : Nat
  /-- `P_PORT_DEPTH`: samples held by each audio or control FIFO. -/
  portDepth : Nat
  /-- `P_MIDI_MSG_DEPTH`: messages held by each MIDI capture queue. -/
  midiMsgDepth : Nat
  /-- `P_MIDI_TX_DEPTH`: bytes held by each MIDI encoder queue. -/
  midiTxDepth : Nat
  /-- `P_WRAP_MODE`. -/
  wrapMode : WrapMode
  deriving DecidableEq, Repr

/-- The defaults of R7, the values this spec's instance takes. -/
def Params.default : Params :=
  { ramBytes := 65536, capMax := 8192, maxPktLimit := 4096, nPorts := 64, portDepth := 256,
    midiMsgDepth := 64, midiTxDepth := 256, wrapMode := .normalised }

/-- The legal ranges of R7. -/
abbrev Params.legal (p : Params) : Prop :=
  (8 ≤ p.ramBytes ∧ p.ramBytes ≤ 2 ^ 24) ∧ (1 ≤ p.capMax ∧ p.capMax ≤ 8192) ∧
  (8 ≤ p.maxPktLimit ∧ p.maxPktLimit ≤ 4096 ∧ p.maxPktLimit % 4 = 0) ∧
  (1 ≤ p.nPorts ∧ p.nPorts ≤ 64) ∧ (1 ≤ p.portDepth ∧ p.portDepth ≤ 65535) ∧
  (1 ≤ p.midiMsgDepth ∧ p.midiMsgDepth ≤ 65535) ∧ (3 ≤ p.midiTxDepth ∧ p.midiTxDepth ≤ 65535)

namespace Config

/-- `TICKS_PER_CYCLE` (R8). -/
def ticksPerCycle : Nat := 3072
/-- `CYCLES_PER_SECOND` (R8). -/
def cyclesPerSecond : Nat := 8000
/-- `SECONDS_MOD` (R8). -/
def secondsMod : Nat := 128
/-- `TICKS_PER_SECOND` (R8). -/
def ticksPerSecond : Nat := 24576000
/-- `TICKS_PER_WRAP` (R8). -/
def ticksPerWrap : Nat := 3145728000

/-- FREE VALUE (R65, R500, log 5): what TXB byte `a` reads as in request number `n` while nothing has written it. -/
opaque unwrittenTxb (n a : Nat) : Byte

/-- FREE VALUE (R66, R500, log 5): what RING byte `a` reads as in request number `n` while nothing has written it. -/
opaque unwrittenRing (n a : Nat) : Byte

/-- FREE VALUE (R66, R500, log 5): the 64 bits META entry `k` reads as in request number `n` while nothing has written it. -/
opaque unwrittenMeta (n k : Nat) : BitVec 64

end Config

end Sys2Proof
end

