-- ==== Sys2Proof/Syntax.lean ====
section
/-! DEFINITION. The instructions: one constructor per row of spec/opcode_table.json (27 host commands of R180 and 3
ISO-interface transactions of R185), and the two forms in which the environment presents them. -/

namespace Sys2Proof

/-- The instructions. A host command's operands are fields of the ARG registers (R181), so its constructor carries none;
an ISO transaction carries its inputs (R185). -/
inductive Instr
  | nop                -- NOP, 0x00, R330
  | openStream         -- OPEN, 0x01, R331
  | init               -- INIT, 0x02, R332
  | start              -- START, 0x03, R333
  | stop               -- STOP, 0x04, R334
  | close              -- CLOSE, 0x05, R335
  | resume             -- RESUME, 0x06, R336
  | setConfig          -- SET_CONFIG, 0x08, R361
  | addPort            -- ADD_PORT, 0x09, R362
  | removePort         -- REMOVE_PORT, 0x0A, R363
  | rbAdd              -- RB_ADD, 0x10, R271
  | rbGet              -- RB_GET, 0x11, R272
  | rbFillPackets      -- RB_FILL_PACKETS, 0x12, R273
  | rbFillPayload      -- RB_FILL_PAYLOAD, 0x13, R274
  | spDemux            -- SP_DEMUX, 0x18, R366
  | spMux              -- SP_MUX, 0x19, R370
  | portRead           -- PORT_READ, 0x1A, R364
  | portWrite          -- PORT_WRITE, 0x1B, R365
  | midiDecode         -- MIDI_DECODE, 0x20, R413
  | midiRead           -- MIDI_READ, 0x21, R414
  | midiEncode         -- MIDI_ENCODE, 0x22, R415
  | ctTicksToCycles    -- CT_TICKS_TO_CYCLES, 0x28, R231
  | ctCyclesToTicks    -- CT_CYCLES_TO_TICKS, 0x29, R232
  | ctReconstruct      -- CT_RECONSTRUCT, 0x2A, R235
  | ctToTicks          -- CT_TO_TICKS, 0x2B, R239
  | ctFromTicks        -- CT_FROM_TICKS, 0x2C, R240
  | ctSytCheck         -- CT_SYT_CHECK, 0x2D, R242
  /-- ISO_PUT, kind 0, R310. -/
  | isoPut (data : List Byte) (channel : BitVec 6) (tag : BitVec 2) (sy : BitVec 4) (cycle : BitVec 13)
      (dropped : Word) (ctr : Word)
  /-- ISO_GET, kind 1, R311. -/
  | isoGet (cycle : BitVec 13) (dropped : Word) (maxLength : BitVec 16)
  | isoBusReset        -- ISO_BUS_RESET, kind 2, R312
  deriving DecidableEq, Repr

/-- One transaction of the ISO interface as the OS layer issues it (R185): the 2-bit kind code and the inputs. A kind
uses only the inputs its row of R185 lists; the others carry nothing. -/
structure IsoRecord where
  kind : BitVec 2
  data : List Byte
  channel : BitVec 6
  tag : BitVec 2
  sy : BitVec 4
  cycle : BitVec 13
  dropped : Word
  ctr : Word
  maxLength : BitVec 16
  deriving DecidableEq, Repr

/-- The record of kind `k` whose inputs are all zero. -/
def IsoRecord.blank (k : BitVec 2) : IsoRecord :=
  { kind := k, data := [], channel := 0, tag := 0, sy := 0, cycle := 0, dropped := 0, ctr := 0, maxLength := 0 }

/-- An instruction as the environment presents it: a CMD word (R180) or an ISO-interface transaction (R185). -/
inductive Encoded
  | cmd (word : Word)
  | iso (record : IsoRecord)
  deriving DecidableEq, Repr

end Sys2Proof
end

