-- ==== Sys2Proof/WellFormed.lean ====
section
/-! DEFINITION. Which terms of `Instr` stand for an instruction the environment can present. -/

namespace Sys2Proof

/-- The longest packet the ISO interface carries (R185: "length `L` 0 to 65535"). -/
def maxIsoLength : Nat := 65535

/-- An ISO_PUT carries at most 65535 bytes (R185); every other operand's width is in its type. -/
def Instr.wellFormed : Instr → Bool
  | .isoPut data _ _ _ _ _ _ => decide (data.length ≤ maxIsoLength)
  | _ => true

end Sys2Proof
end

