-- ==== Sys2Proof/Decode.lean ====
section
/-! DEFINITION. The decoder of CMD words (R180, R184) and of ISO-interface transactions (R185), total and rejecting by
name; after it the encoder, written from the same tables. -/

namespace Sys2Proof

/-- Why a CMD word or an ISO transaction names no instruction. -/
inductive DecodeError
  | cmdReservedBits    -- CMD[31:8] is not 0 (R180, R184): E_OPCODE
  | reservedOpcode     -- CMD[7:0] is not in the opcode map (R180): E_OPCODE
  | reservedKind       -- ISO kind code 3 (R185): interface fault IF_KIND
  | lengthOutOfRange   -- an ISO_PUT of more than 65535 bytes: no transaction of R185
  deriving DecidableEq, Repr

/-- The opcode map of R180. -/
def commandTable : List (Nat × Instr) :=
  [ (0x00, .nop), (0x01, .openStream), (0x02, .init), (0x03, .start), (0x04, .stop), (0x05, .close), (0x06, .resume),
    (0x08, .setConfig), (0x09, .addPort), (0x0A, .removePort),
    (0x10, .rbAdd), (0x11, .rbGet), (0x12, .rbFillPackets), (0x13, .rbFillPayload),
    (0x18, .spDemux), (0x19, .spMux), (0x1A, .portRead), (0x1B, .portWrite),
    (0x20, .midiDecode), (0x21, .midiRead), (0x22, .midiEncode),
    (0x28, .ctTicksToCycles), (0x29, .ctCyclesToTicks), (0x2A, .ctReconstruct), (0x2B, .ctToTicks),
    (0x2C, .ctFromTicks), (0x2D, .ctSytCheck) ]

/-- Decoding a command (R184): CMD[31:8] first, then the opcode in R180's table. -/
def decodeCmd (w : Word) : Except DecodeError Instr :=
  if w.extractLsb' 8 24 ≠ 0 then .error .cmdReservedBits
  else match commandTable.lookup (w.extractLsb' 0 8).toNat with
    | some i => .ok i
    | none => .error .reservedOpcode

/-- Decoding an ISO transaction (R185) by its kind code. -/
def decodeIso (r : IsoRecord) : Except DecodeError Instr :=
  if r.kind = 0 then
    if r.data.length ≤ maxIsoLength then
      .ok (.isoPut r.data r.channel r.tag r.sy r.cycle r.dropped r.ctr)
    else .error .lengthOutOfRange
  else if r.kind = 1 then .ok (.isoGet r.cycle r.dropped r.maxLength)
  else if r.kind = 2 then .ok .isoBusReset
  else .error .reservedKind

/-- The decoder, total on every CMD word and every ISO transaction. -/
def decode : Encoded → Except DecodeError Instr
  | .cmd w => decodeCmd w
  | .iso r => decodeIso r

/-- The bits of a row of spec/opcode_table.json: a CMD word for the rows of format CMD (32 bits); for the rows of format
ISO (mask 0x3) the kind code in bits [1:0], with every input of the transaction 0 (log 12). -/
def tableWord (nbits w : Nat) : Encoded :=
  if nbits < 32 then .iso (IsoRecord.blank (BitVec.ofNat 2 w)) else .cmd (BitVec.ofNat 32 w)

/-- What the decoder reads from an instruction numbered as spec/opcode_table.json numbers its bits. -/
def decodeTableWord (nbits w : Nat) : Option Instr :=
  (decode (tableWord nbits w)).toOption

/-- The encoder: the CMD word (R180) or the ISO transaction (R185) of an instruction. -/
def encode : Instr → Encoded
  | .nop => .cmd 0x00
  | .openStream => .cmd 0x01
  | .init => .cmd 0x02
  | .start => .cmd 0x03
  | .stop => .cmd 0x04
  | .close => .cmd 0x05
  | .resume => .cmd 0x06
  | .setConfig => .cmd 0x08
  | .addPort => .cmd 0x09
  | .removePort => .cmd 0x0A
  | .rbAdd => .cmd 0x10
  | .rbGet => .cmd 0x11
  | .rbFillPackets => .cmd 0x12
  | .rbFillPayload => .cmd 0x13
  | .spDemux => .cmd 0x18
  | .spMux => .cmd 0x19
  | .portRead => .cmd 0x1A
  | .portWrite => .cmd 0x1B
  | .midiDecode => .cmd 0x20
  | .midiRead => .cmd 0x21
  | .midiEncode => .cmd 0x22
  | .ctTicksToCycles => .cmd 0x28
  | .ctCyclesToTicks => .cmd 0x29
  | .ctReconstruct => .cmd 0x2A
  | .ctToTicks => .cmd 0x2B
  | .ctFromTicks => .cmd 0x2C
  | .ctSytCheck => .cmd 0x2D
  | .isoPut data channel tag sy cycle dropped ctr =>
    .iso { kind := 0, data, channel, tag, sy, cycle, dropped, ctr, maxLength := 0 }
  | .isoGet cycle dropped maxLength => .iso { IsoRecord.blank 1 with cycle, dropped, maxLength }
  | .isoBusReset => .iso (IsoRecord.blank 2)

end Sys2Proof
end

