-- ==== Sys2Proof/Machine/State.lean ====
section
/-! DEFINITION. The state of the block as plain data: every register, queue, memory and shadow of 10_state.md, the
parameters of the instance, and the model's own three fields (`input`, `resp`, `draw`). -/

namespace Sys2Proof.Machine

/-- Why a run stops: the interface faults of R456, and no other ("No other fault exists"). -/
inductive Fault
  /-- IF_KIND (R456): the OS layer issued an ISO transaction of kind code 3. Raised by `isoTransaction`. Safe: the spec
  says the instance takes no further step. -/
  | ifKind
  /-- IF_MAXLEN (R456, R311): an enabled ISO_GET with `maxLength < 8`. Raised by `execIsoGet`. Safe: the spec says the
  instance takes no further step. -/
  | ifMaxLen
  deriving DecidableEq, Repr

/-- Why a request has no meaning. -/
inductive Refusal
  /-- Raised by an arm of `exec` that has no meaning yet. Safe. No arm is such an arm. -/
  | notModelled (mnemonic : String)
  /-- An ISO_PUT of more than 65535 bytes, which the interface cannot carry (R185, log 10). Raised by `isoTransaction`.
  Safe: no environment can issue it. -/
  | noSuchTransaction
  deriving DecidableEq, Repr

/-- `LC` (R44). The codes 5 to 7 are never held. -/
inductive Lifecycle
  | closed | opened | ready | running | stopped
  deriving DecidableEq, Repr

/-- `DIR` (R45) and a port entry's DIR (R176): receive and capture are 0, transmit and playback are 1. -/
inductive Direction
  | rx | tx
  deriving DecidableEq, Repr

/-- `TIER` (R51). The code 3 is never held. -/
inductive Tier
  | x1 | x2 | x4
  deriving DecidableEq, Repr

/-- `OPT` (R51). The code 3 is never held. -/
inductive OptMode
  | none | adat | toslink
  deriving DecidableEq, Repr

/-- The error codes of `STATUS.ERR` (R451). The codes 0x0E to 0xFF are never produced. -/
inductive ErrCode
  | ok | eOpcode | eState | eArg | ePort | eConfig | eResource | eTooLong | eOverflow | eUnderflow
  | eProtoShort | eProtoDim | eProtoLen | eMidi
  deriving DecidableEq, Repr

/-- `MD[p].MS` (R69). The source's Complete is never held between steps. -/
inductive MidiState
  | awaitStatus | awaitData1 | awaitData2
  deriving DecidableEq, Repr

/-- The MIDI decoder state `MD[p]` (R69). -/
structure MidiDecoder where
  ms : MidiState
  /-- Running status byte, 0 for none. -/
  rsb : Byte
  /-- Status of the message in progress. -/
  cur : Byte
  /-- First data byte of the message in progress. -/
  d1 : Byte
  deriving DecidableEq, Repr

/-- `(AS, 0, 0, 0)` (R69). -/
def MidiDecoder.idle : MidiDecoder := { ms := .awaitStatus, rsb := 0, cur := 0, d1 := 0 }

/-- One port of the table: its entry `PT[p]` (R63), its queues `PF[p]`, `MQ[p]`, `EQ[p]` (R68, head first) and its
decoder `MD[p]` (R69). -/
structure Port where
  entry : Word
  pf : List Word
  mq : List Word
  eq : List Byte
  md : MidiDecoder
  deriving DecidableEq, Repr

/-- A port-table entry of 0 with empty queues and an idle decoder. -/
def Port.empty : Port := { entry := 0, pf := [], mq := [], eq := [], md := MidiDecoder.idle }

/-- The counters of R61. -/
structure Counters where
  overflow : Word
  underflow : Word
  isoProto : Word
  llDropped : Word
  busReset : Word
  proto : Word
  portOvf : Word
  portUnf : Word
  midiDiscard : Word
  sytmon : Word
  deriving DecidableEq, Repr

def Counters.zero : Counters :=
  { overflow := 0, underflow := 0, isoProto := 0, llDropped := 0, busReset := 0, proto := 0, portOvf := 0,
    portUnf := 0, midiDiscard := 0, sytmon := 0 }

/-- The names of the counters (R61). -/
inductive Counter
  | overflow | underflow | isoProto | llDropped | busReset | proto | portOvf | portUnf | midiDiscard | sytmon
  deriving DecidableEq, Repr

/-- The APP-domain shadows `X@APP` of the ISO-owned registers (R70, R126). -/
structure Shadows where
  overflow : Word
  underflow : Word
  isoProto : Word
  llDropped : Word
  busReset : Word
  isoDbcNext : BitVec 8
  deriving DecidableEq, Repr

def Shadows.zero : Shadows :=
  { overflow := 0, underflow := 0, isoProto := 0, llDropped := 0, busReset := 0, isoDbcNext := 0 }

/-- The clock-domain-crossing registers of R126, each with its own agent SYNC(X). -/
inductive CdcReg
  | w | r | cntOverflow | cntUnderflow | cntIsoProto | cntLlDropped | cntBusReset | isoDbcNext
  deriving DecidableEq, Repr

/-- One entry of META (R66). -/
structure SlotMeta where
  len : BitVec 13
  tag : BitVec 2
  sy : BitVec 4
  cycle : BitVec 13
  ctr : Word
  deriving DecidableEq, Repr

/-- A byte memory (TXB, RING): the bytes that something has written, by rising address. -/
abbrev Memory := List Host.Cell

/-- META: the entries that an add has written, by rising slot number. -/
abbrev MetaTable := List (Nat × SlotMeta)

/-- The canonical form: keys strictly rising. An unlisted key has no value of its own (it reads as a free value, log 5),
so no entry can equal what an unlisted key reads as. -/
abbrev risingKeys {α : Type} (m : List (Nat × α)) : Prop := m.Pairwise fun x y => x.1 < y.1

abbrev Memory.wf (m : Memory) : Prop := risingKeys m

/-- One step the environment may ask of the block (R3, R120): a host access of the given width in bits at any byte offset
from the window's base, inside the window or past its end (R457, log 15), an ISO-interface transaction, a SYNC copy, or
the hardware reset. -/
inductive Request
  | hostRead (bits : Nat) (offset : Nat)
  | hostWrite (bits : Nat) (offset : Nat) (value : Word)
  | iso (record : IsoRecord)
  | sync (x : CdcReg)
  | hwReset
  deriving DecidableEq, Repr

/-- The disposition of ISO_PUT and ISO_GET, always OK (R314). -/
inductive Disposition
  | ok
  deriving DecidableEq, Repr

/-- What the block answered the last request. -/
inductive Response
  /-- Nothing to answer: no request yet, a SYNC copy, a hardware reset, an ISO_BUS_RESET (R314). -/
  | none
  /-- The host access was performed; a write. -/
  | written
  /-- The host access was performed; a read of this value. -/
  | readData (value : Word)
  /-- The host access got a bus error and was not performed (R457). -/
  | busError
  /-- ISO_PUT's output (R185). -/
  | isoPut (disposition : Disposition)
  /-- ISO_GET's outputs (R185). -/
  | isoGet (data : List Byte) (length : BitVec 16) (tag : BitVec 2) (sy : BitVec 4) (disposition : Disposition)
  /-- The ISO_PUT or ISO_GET was not enabled and did not occur (R315, log 4). -/
  | notEnabled
  deriving DecidableEq, Repr

/-- The state of one instance. -/
structure State where
  /-- The parameters of R7, fixed for the instance (log 7). -/
  params : Params
  /-- `ARG[0..7]` (R41). -/
  arg : Vector Word 8
  /-- `RES[0..3]` (R41). -/
  res : Vector Word 4
  /-- `CMD` (R53). -/
  cmd : Word
  /-- `STATUS.ERR` (R54). -/
  err : ErrCode
  /-- `LC` (R44). -/
  lc : Lifecycle
  /-- `DIR` (R45). -/
  dir : Direction
  /-- `CHAN` (R46). -/
  chan : BitVec 6
  /-- `DIM` (R47). -/
  dim : BitVec 8
  /-- `BRP` (R48). -/
  brp : Bool
  /-- `HDRSIZE` (R49). -/
  hdrSize : BitVec 13
  /-- `CAP` (R49). -/
  cap : BitVec 14
  /-- `MAXPKT` (R49). -/
  maxPkt : BitVec 13
  /-- `W` (R50), owned by the producer. -/
  wIdx : BitVec 14
  /-- `R` (R50), owned by the consumer. -/
  rIdx : BitVec 14
  /-- `W@C` (R50, R70). -/
  wAtC : BitVec 14
  /-- `R@P` (R50, R70). -/
  rAtP : BitVec 14
  /-- `TIER` (R51). -/
  tier : Tier
  /-- `OPT` (R51). -/
  opt : OptMode
  /-- `STATUS.CPKT_VALID` (R54). -/
  cpktValid : Bool
  /-- `STATUS.TS_VALID` (R54). -/
  tsValid : Bool
  /-- `STATUS.SYTMON_HAVE` (R54, R62). -/
  sytmonHave : Bool
  /-- `STATUS.CT_HAVE` (R54, R239). -/
  ctHave : Bool
  /-- `SUPPORTED` (R55). -/
  supported : Word
  /-- `TX_CIP` (R56). -/
  txCip : Word
  /-- `TX_ISO` (R57). -/
  txIso : Word
  /-- `DBC_TX` (R58). -/
  dbcTx : BitVec 8
  /-- `ISO_DBC_NEXT` (R70). -/
  isoDbcNext : BitVec 8
  /-- `CPKT_LEN` (R60). -/
  cpktLen : BitVec 13
  /-- `CPKT_META` (R60). -/
  cpktMeta : Word
  /-- `CPKT_CTR` (R60). -/
  cpktCtr : Word
  /-- `LAST_CIP0` (R60). -/
  lastCip0 : Word
  /-- `LAST_CIP1` (R60). -/
  lastCip1 : Word
  /-- `LAST_TS` (R60). -/
  lastTs : Word
  /-- `SYTMON_LAST` (R62). -/
  sytmonLast : Word
  /-- `CT_LAST_SEC` (R60, R239). -/
  ctLastSec : BitVec 7
  /-- `CT_EPOCH` (R60, R239). -/
  ctEpoch : Word
  /-- The counters (R61). -/
  counters : Counters
  /-- The APP-domain shadows (R70). -/
  shadows : Shadows
  /-- The port table with its queues and decoders (R63, R68, R69); the ports `p < P_NPORTS` exist (log 13). -/
  ports : Vector Port 64
  /-- `TXB` (R65). -/
  txb : Memory
  /-- `RING` (R66). -/
  ring : Memory
  /-- `META` (R66). -/
  slotMeta : MetaTable
  /-- The MODEL's own: the number of the request being performed, which picks the free values (log 5). -/
  draw : Nat
  /-- The MODEL's own: the requests the environment will make, in order (log 1). -/
  input : List Request
  /-- The MODEL's own: the answer to the last request (log 2). -/
  resp : Response
  deriving DecidableEq, Repr

/-- The state after the hardware reset of an instance with parameters `p` (R500 and the reset values of 10_state.md),
with nothing written in TXB, RING and META and no request pending. -/
def State.resetOf (p : Params) : State :=
  { params := p, arg := Vector.replicate 8 0, res := Vector.replicate 4 0, cmd := 0, err := .ok, lc := .closed,
    dir := .rx, chan := 0, dim := 0, brp := false, hdrSize := 0, cap := 0, maxPkt := 0, wIdx := 0, rIdx := 0,
    wAtC := 0, rAtP := 0, tier := .x1, opt := .none, cpktValid := false, tsValid := false, sytmonHave := false,
    ctHave := false, supported := 0x00000001, txCip := 0, txIso := 0x00000001, dbcTx := 0, isoDbcNext := 0,
    cpktLen := 0, cpktMeta := 0, cpktCtr := 0, lastCip0 := 0, lastCip1 := 0, lastTs := 0, sytmonLast := 0,
    ctLastSec := 0, ctEpoch := 0, counters := Counters.zero, shadows := Shadows.zero,
    ports := Vector.replicate 64 Port.empty, txb := [], ring := [], slotMeta := [], draw := 0, input := [],
    resp := .none }

/-- The machine right after reset, with the default parameters of R7. -/
def State.reset : State := State.resetOf Params.default

end Sys2Proof.Machine
end

