-- ==== Sys2Proof/Machine/Operands.lean ====
section
/-! DEFINITION. Operand forms: the ARG fields of R181 and the word formats of 30_encoding.md (quadlets, CIP header, SYT,
cycle timer, port entry, MIDI message word, sample, metadata word). -/

namespace Sys2Proof.Machine

/-! ### Quadlets and bytes (R121) -/

/-- `be32`: the first byte on the wire is the most significant (R121). -/
def be32 (b0 b1 b2 b3 : Byte) : Word := b0 ++ b1 ++ b2 ++ b3

/-- `put_be32`: the bytes of a quadlet in wire order (R12, R121). -/
def putBe32 (q : Word) : List Byte :=
  [q.extractLsb' 24 8, q.extractLsb' 16 8, q.extractLsb' 8 8, q.extractLsb' 0 8]

/-- The low and the high word of a 64-bit value. -/
def lowWord (v : Nat) : Word := BitVec.ofNat 32 v

def highWord (v : Nat) : Word := BitVec.ofNat 32 (v / 2 ^ 32)

/-! ### Operands of host commands (R181) -/

/-- The field `[n-1:0]` of ARG[i]; `none` when a bit outside it is set (R181: E_ARG). -/
def State.argField (s : State) (i : Fin 8) (n : Nat) : Option (BitVec n) :=
  if s.arg[i].toNat < 2 ^ n then some (s.arg[i].setWidth n) else none

/-- The port index operand `ARG0[5:0]`; `none` when a bit above it is set or the index is `≥ P_NPORTS` (R181). -/
def State.argPort (s : State) : Option (Fin 64) :=
  match s.argField 0 6 with
  | some p => if p.toNat < s.params.nPorts then some p.toFin else none
  | none => none

/-- The 64-bit operand `ARG1 : ARG0` (R231, R240). -/
def State.argTicks (s : State) : Nat := s.arg[1].toNat * 2 ^ 32 + s.arg[0].toNat

/-- The direction a DIR bit names (R45, R176). -/
def directionOf (b : BitVec 1) : Direction := if b = 0 then .rx else .tx

/-- The tier a TIER code names (R51); `none` for 3. -/
def tierOf (b : BitVec 2) : Option Tier :=
  if b = 0 then some .x1 else if b = 1 then some .x2 else if b = 2 then some .x4 else none

/-- The optical mode an OPT code names (R51); `none` for 3. -/
def optModeOf (b : BitVec 2) : Option OptMode :=
  if b = 0 then some .none else if b = 1 then some .adat else if b = 2 then some .toslink else none

/-! ### CIP header (R170, R171, R313, R370) -/

/-- `Q0.DBS` (R170). -/
def cipDbs (q0 : Word) : BitVec 8 := q0.extractLsb' 16 8

/-- `Q1.SYT` (R171). -/
def cipSyt (q1 : Word) : BitVec 16 := q1.extractLsb' 0 16

/-- A transmitted Q0: EOH0, FN, QPC and SPH are 0 (R313, R370). -/
def makeCip0 (sid : BitVec 6) (dbs dbc : BitVec 8) : Word := 0#2 ++ sid ++ dbs ++ 0#8 ++ dbc

/-- A transmitted Q1: EOH1 is 2 (R313, R370). -/
def makeCip1 (fmt : BitVec 6) (fdf : BitVec 8) (syt : BitVec 16) : Word := 2#2 ++ fmt ++ fdf ++ syt

/-- `TX_CIP.SID` (R56). -/
def txCipSid (v : Word) : BitVec 6 := v.extractLsb' 0 6

/-- `TX_CIP.FMT` (R56). -/
def txCipFmt (v : Word) : BitVec 6 := v.extractLsb' 8 6

/-- `TX_CIP.FDF` (R56). -/
def txCipFdf (v : Word) : BitVec 8 := v.extractLsb' 16 8

/-- The reserved bits of TX_CIP: [7:6], [15:14], [31:24] (R56). -/
def txCipReserved : Word := 0xFF00C0C0

/-- `TX_ISO.TAG` (R57). -/
def txIsoTag (v : Word) : BitVec 2 := v.extractLsb' 0 2

/-- `TX_ISO.SY` (R57). -/
def txIsoSy (v : Word) : BitVec 4 := v.extractLsb' 4 4

/-- The reserved bits of TX_ISO: [3:2], [31:8] (R57). -/
def txIsoReserved : Word := 0xFFFFFF0C

/-- The bits of SUPPORTED that must be written 0: [31:9] (R55). -/
def supportedReserved : Word := 0xFFFFFE00

/-! ### Cycle timer and SYT (R172, R173, R230) -/

/-- `SEC(t)` (R230). -/
def ctrSec (t : Word) : BitVec 7 := t.extractLsb' 25 7

/-- `CYC(t)` (R230). -/
def ctrCyc (t : Word) : BitVec 13 := t.extractLsb' 12 13

/-- `OFF(t)` (R230). -/
def ctrOff (t : Word) : BitVec 12 := t.extractLsb' 0 12

/-- `NIB(y)` (R230). -/
def sytNib (y : BitVec 16) : BitVec 4 := y.extractLsb' 12 4

/-- `SOFF(y)` (R230). -/
def sytOff (y : BitVec 16) : BitVec 12 := y.extractLsb' 0 12

/-- A cycle-timer value or full timestamp from its fields (R173). -/
def makeCtr (sec : BitVec 7) (cyc : BitVec 13) (off : BitVec 12) : Word := sec ++ cyc ++ off

/-- A CTR value is valid (R230). -/
def ctrValid (t : Word) : Bool :=
  decide ((ctrCyc t).toNat < Config.cyclesPerSecond) && decide ((ctrOff t).toNat < Config.ticksPerCycle)

/-- A SYT is valid (R230). -/
def sytValid (y : BitVec 16) : Bool := decide ((sytOff y).toNat < Config.ticksPerCycle)

/-! ### Port-table entry (R176) -/

/-- The TYPE field of a port entry (R176). -/
inductive PortType
  | audio | midi | control | reserved
  deriving DecidableEq, Repr

def entryValid (e : Word) : Bool := e.getLsbD 0

def entryDir (e : Word) : Direction := directionOf (e.extractLsb' 1 1)

def entryType (e : Word) : PortType :=
  let t := e.extractLsb' 2 2
  if t = 0 then .audio else if t = 1 then .midi else if t = 2 then .control else .reserved

/-- WIDTH: 0 for 3 bytes, 1 for 4 bytes. -/
def entryWide (e : Word) : Bool := e.getLsbD 4

/-- `width(p) = 3 + WIDTH` (R176). -/
def entryWidth (e : Word) : Nat := if entryWide e then 4 else 3

def entryOffset (e : Word) : Nat := (e.extractLsb' 8 10).toNat

def entryPres (e : Word) : BitVec 9 := e.extractLsb' 18 9

/-- The bits ADD_PORT requires to be 0: VALID [0], ENABLED [5], [7:6] and [31:27] (R176). -/
def entryMustBeZero : Word := 0xF80000E1

/-- Two slots `[OFFSET, OFFSET + width)` share a byte (R362 check 7). -/
def slotsOverlap (e f : Word) : Bool :=
  decide (entryOffset e < entryOffset f + entryWidth f) && decide (entryOffset f < entryOffset e + entryWidth e)

/-- A valid audio or control port of direction `d` (R364, R365). -/
def isSamplePort (d : Direction) (e : Word) : Bool :=
  entryValid e && decide (entryType e ≠ .midi) && decide (entryDir e = d)

/-- A valid MIDI port of direction `d` (R413 to R415). -/
def isMidiPort (d : Direction) (e : Word) : Bool :=
  entryValid e && decide (entryType e = .midi) && decide (entryDir e = d)

/-! ### Samples (R178) -/

/-- The value of a 3-byte or 4-byte sample whose bytes are `b0 b1 b2 (b3)` (R178). -/
def sampleValue (wide : Bool) (b0 b1 b2 b3 : Byte) : Word :=
  if wide then be32 b0 b1 b2 b3 else 0#8 ++ b0 ++ b1 ++ b2

/-- The bytes of a sample in a slot of 3 or 4 bytes (R178, R371). -/
def sampleBytes (wide : Bool) (v : Word) : List Byte :=
  if wide then putBe32 v else [v.extractLsb' 16 8, v.extractLsb' 8 8, v.extractLsb' 0 8]

/-! ### MIDI message word (R177) -/

def midiWord (len : BitVec 2) (b0 b1 b2 : Byte) : Word := 0#6 ++ len ++ b0 ++ b1 ++ b2

def midiLen (m : Word) : Nat := (m.extractLsb' 24 2).toNat

def midiB0 (m : Word) : Byte := m.extractLsb' 16 8

def midiB1 (m : Word) : Byte := m.extractLsb' 8 8

def midiB2 (m : Word) : Byte := m.extractLsb' 0 8

/-! ### ISO metadata word (R179) -/

def metaWord (tag : BitVec 2) (sy : BitVec 4) (cycle : BitVec 13) : Word :=
  0#3 ++ cycle ++ 0#8 ++ sy ++ 0#2 ++ tag

end Sys2Proof.Machine
end

