-- ==== Sys2Proof/Machine/Flags.lean ====
section
/-! DEFINITION. Codes and flags: the field codes and the STATUS word (R54), port enablement (R67) and the enabling of
the ISO transactions (R315). The block has no condition codes (R71). -/

namespace Sys2Proof.Machine

/-- The 3-bit code of `LC` (R44). -/
def Lifecycle.code : Lifecycle → BitVec 3
  | .closed => 0 | .opened => 1 | .ready => 2 | .running => 3 | .stopped => 4

/-- The 1-bit code of `DIR` (R45). -/
def Direction.code : Direction → BitVec 1
  | .rx => 0 | .tx => 1

/-- The 2-bit code of `TIER` (R51). -/
def Tier.code : Tier → BitVec 2
  | .x1 => 0 | .x2 => 1 | .x4 => 2

/-- The 2-bit code of `OPT` (R51). -/
def OptMode.code : OptMode → BitVec 2
  | .none => 0 | .adat => 1 | .toslink => 2

/-- The 8-bit code of an error (R451). -/
def ErrCode.code : ErrCode → BitVec 8
  | .ok => 0x00 | .eOpcode => 0x01 | .eState => 0x02 | .eArg => 0x03 | .ePort => 0x04 | .eConfig => 0x05
  | .eResource => 0x06 | .eTooLong => 0x07 | .eOverflow => 0x08 | .eUnderflow => 0x09
  | .eProtoShort => 0x0A | .eProtoDim => 0x0B | .eProtoLen => 0x0C | .eMidi => 0x0D

/-- The 2-bit code of `MD[p].MS` (R69). -/
def MidiState.code : MidiState → BitVec 2
  | .awaitStatus => 0 | .awaitData1 => 1 | .awaitData2 => 2

/-- The value of `P_WRAP_MODE` (R7). -/
def wrapModeCode : WrapMode → BitVec 1
  | .normalised => 0 | .literal => 1

/-- STATUS (R54): [31:21] 0, CT_HAVE, OPT, TIER, ERR, SYTMON_HAVE, TS_VALID, CPKT_VALID, BRP, DIR, LC. -/
def State.statusWord (s : State) : Word :=
  0#11 ++ BitVec.ofBool s.ctHave ++ s.opt.code ++ s.tier.code ++ s.err.code ++ BitVec.ofBool s.sytmonHave ++
    BitVec.ofBool s.tsValid ++ BitVec.ofBool s.cpktValid ++ BitVec.ofBool s.brp ++ s.dir.code ++ s.lc.code

/-- The ring is "ready": `LC ∈ {READY, RUNNING, STOPPED}` (R270). -/
def Lifecycle.ringReady : Lifecycle → Bool
  | .closed | .opened => false
  | .ready | .running | .stopped => true

/-- The index `3·OPT + TIER` of a configuration, into SUPPORTED (R55) and PRES (R176). -/
def configIndex (tier : Tier) (opt : OptMode) : Nat := 3 * opt.code.toNat + tier.code.toNat

/-- The port entry `e` is enabled in the current configuration (R67). -/
def State.entryEnabled (s : State) (e : Word) : Bool :=
  entryValid e && (entryPres e).getLsbD (configIndex s.tier s.opt)

/-- Port `p` exists and is enabled (R67). -/
def State.portEnabled (s : State) (p : Fin 64) : Bool :=
  decide (p.val < s.params.nPorts) && s.entryEnabled s.ports[p].entry

/-- ISO_PUT is enabled (R315). -/
def State.putEnabled (s : State) : Bool := decide (s.lc = .running) && !s.brp && decide (s.dir = .rx)

/-- ISO_GET is enabled (R315). -/
def State.getEnabled (s : State) : Bool := decide (s.lc = .running) && !s.brp && decide (s.dir = .tx)

end Sys2Proof.Machine
end

