-- ==== Sys2Proof/Machine/Ops.lean ====
section
/-! DEFINITION. The named operations over memory and registers: sorted memories, TXB, the counters (R14), the two ends of
a host command (R14, R450, in the place of taking an exception: the block has no traps, R459), the ring primitives
(R123, R124, R270), port updates, `teardown` (R337), the SYNC copy (R127) and the hardware reset (R500). -/

namespace Sys2Proof.Machine

/-! ### Memories in canonical form -/

/-- What the memory lists at key `a`, `none` when nothing has written it. -/
def lookupAt {α : Type} : List (Nat × α) → Nat → Option α
  | [], _ => none
  | (k, v) :: m, a => if k = a then some v else lookupAt m a

/-- Write `v` at key `a`, keeping the keys strictly rising. -/
def insertAt {α : Type} : List (Nat × α) → Nat → α → List (Nat × α)
  | [], a, v => [(a, v)]
  | (k, x) :: m, a, v =>
    if a < k then (a, v) :: (k, x) :: m
    else if a = k then (a, v) :: m
    else (k, x) :: insertAt m a v

/-- `MemWrite` (R13): the bytes `bs` at addresses `a`, `a + 1`, … -/
def writeBytes (m : Memory) (a : Nat) : List Byte → Memory
  | [] => m
  | b :: bs => writeBytes (insertAt m a b) (a + 1) bs

/-- The TXB byte `a`; a free value while nothing has written it (R65, log 5). -/
def State.txbByte (s : State) (a : Nat) : Byte := (lookupAt s.txb a).getD (Config.unwrittenTxb s.draw a)

/-- `MemRead(TXB, a, n)` (R13). -/
def State.txbBytes (s : State) (a n : Nat) : List Byte := (List.range n).map fun j => s.txbByte (a + j)

/-- `be32(TXB, a)` (R12, R122). -/
def State.txbQuad (s : State) (a : Nat) : Word :=
  be32 (s.txbByte a) (s.txbByte (a + 1)) (s.txbByte (a + 2)) (s.txbByte (a + 3))

/-- `MemWrite(TXB, a, |bs|, bs)` (R13). -/
def State.writeTxb (s : State) (a : Nat) (bs : List Byte) : State := { s with txb := writeBytes s.txb a bs }

/-- The RING byte `a`; a free value while nothing has written it (R66, log 5). -/
def State.ringByte (s : State) (a : Nat) : Byte := (lookupAt s.ring a).getD (Config.unwrittenRing s.draw a)

/-- `MemRead(RING, a, n)` (R13). -/
def State.ringBytes (s : State) (a n : Nat) : List Byte := (List.range n).map fun j => s.ringByte (a + j)

/-- A META entry made of 64 free bits. -/
def SlotMeta.ofBits (b : BitVec 64) : SlotMeta :=
  { len := b.extractLsb' 0 13, tag := b.extractLsb' 13 2, sy := b.extractLsb' 15 4, cycle := b.extractLsb' 19 13,
    ctr := b.extractLsb' 32 32 }

/-- `META[k]`; a free value while nothing has written it (R66, log 5). -/
def State.metaAt (s : State) (k : Nat) : SlotMeta :=
  (lookupAt s.slotMeta k).getD (SlotMeta.ofBits (Config.unwrittenMeta s.draw k))

/-! ### Counters (R14, R61) -/

def Counters.get (c : Counters) : Counter → Word
  | .overflow => c.overflow
  | .underflow => c.underflow
  | .isoProto => c.isoProto
  | .llDropped => c.llDropped
  | .busReset => c.busReset
  | .proto => c.proto
  | .portOvf => c.portOvf
  | .portUnf => c.portUnf
  | .midiDiscard => c.midiDiscard
  | .sytmon => c.sytmon

/-- `add(CNT, v)`: modulo 2^32 (R14). -/
def Counters.add (c : Counters) (k : Counter) (v : Word) : Counters :=
  match k with
  | .overflow => { c with overflow := c.overflow + v }
  | .underflow => { c with underflow := c.underflow + v }
  | .isoProto => { c with isoProto := c.isoProto + v }
  | .llDropped => { c with llDropped := c.llDropped + v }
  | .busReset => { c with busReset := c.busReset + v }
  | .proto => { c with proto := c.proto + v }
  | .portOvf => { c with portOvf := c.portOvf + v }
  | .portUnf => { c with portUnf := c.portUnf + v }
  | .midiDiscard => { c with midiDiscard := c.midiDiscard + v }
  | .sytmon => { c with sytmon := c.sytmon + v }

/-- `add(CNT, v)` on the state (R14). -/
def State.addTo (s : State) (k : Counter) (v : Word) : State := { s with counters := s.counters.add k v }

/-- `count(CNT)` (R14). -/
def State.count (s : State) (k : Counter) : State := s.addTo k 1

/-! ### The ends of a host command (R14, R450) -/

/-- What a step answers. -/
abbrev Result := Host.Outcome State Fault Refusal

/-- `raise E` (R14, R450): `STATUS.ERR <- E`, no RES register written, nothing else changed. -/
def State.raise (s : State) (e : ErrCode) : State := { s with err := e }

/-- The command ends with the error `e`. -/
def State.fails (s : State) (e : ErrCode) : Result := .next (s.raise e)

/-- The command ends with success: `STATUS.ERR <- OK` (R450). -/
def State.succeeds (s : State) : Result := .next (s.raise .ok)

/-- `RES[i] <- v` (R41). -/
def State.withRes (s : State) (i : Fin 4) (v : Word) : State := { s with res := s.res.set i.val v i.isLt }

/-- The outputs of an ISO transaction, or the answer to a host access. -/
def State.answer (s : State) (r : Response) : State := { s with resp := r }

/-! ### The packet ring (R50, R123, R124, R270) -/

/-- `fill(w, r) = (w - r) mod (2·CAP)`, the non-negative remainder (R11, R270). -/
def fill (cap w r : BitVec 14) : Nat := (((w.toNat : Int) - (r.toNat : Int)) % ((2 * cap.toNat : Nat) : Int)).toNat

/-- `slot(i) = i mod CAP` (R270). -/
def slot (cap : BitVec 14) (i : Nat) : Nat := i % cap.toNat

/-- `(i + 1) mod (2·CAP)` (R123, R124). -/
def nextIndex (cap i : BitVec 14) : BitVec 14 := BitVec.ofNat 14 ((i.toNat + 1) % (2 * cap.toNat))

/-- The producer's view of the fill: `fill(W, R@P)` (R270). -/
def State.producerFill (s : State) : Nat := fill s.cap s.wIdx s.rAtP

/-- The consumer's view of the fill: `fill(W@C, R)` (R270). -/
def State.consumerFill (s : State) : Nat := fill s.cap s.wAtC s.rIdx

/-- `app_w`: the write index in the APP domain (R59, R270). -/
def State.appW (s : State) : BitVec 14 := match s.dir with | .rx => s.wAtC | .tx => s.wIdx

/-- `app_r`: the read index in the APP domain (R59, R270). -/
def State.appR (s : State) : BitVec 14 := match s.dir with | .rx => s.rIdx | .tx => s.rAtP

/-- `ring_add` (R123): the bytes and META first, `W` last. -/
def State.ringAdd (s : State) (b : List Byte) (tag : BitVec 2) (sy : BitVec 4) (cycle : BitVec 13) (ctr : Word) : State :=
  { s with
    ring := writeBytes s.ring (slot s.cap s.wIdx.toNat * s.maxPkt.toNat) b
    slotMeta := insertAt s.slotMeta (slot s.cap s.wIdx.toNat) { len := BitVec.ofNat 13 b.length, tag, sy, cycle, ctr }
    wIdx := nextIndex s.cap s.wIdx }

/-- The META entry of the packet at the head of the ring (R124). -/
def State.headMeta (s : State) : SlotMeta := s.metaAt (slot s.cap s.rIdx.toNat)

/-- The bytes of the packet at the head of the ring (R124). -/
def State.headBytes (s : State) : List Byte :=
  s.ringBytes (slot s.cap s.rIdx.toNat * s.maxPkt.toNat) s.headMeta.len.toNat

/-- What `ring_get` changes (R124): the slot is freed last. -/
def State.ringDrop (s : State) : State := { s with rIdx := nextIndex s.cap s.rIdx }

/-! ### Ports (R63, R68, R69) -/

/-- Change port `p`. -/
def State.setPort (s : State) (p : Fin 64) (q : Port) : State := { s with ports := s.ports.set p.val q p.isLt }

/-- Every port entry 0, every queue empty, every decoder `(AS, 0, 0, 0)` (R331, R337). -/
def State.clearPorts (s : State) : State := { s with ports := Vector.replicate 64 Port.empty }

/-- A loop over the ports `p < P_NPORTS` in ascending index (R360). -/
def State.forPorts (s : State) (f : State → Fin 64 → State) : State :=
  (List.finRange 64).foldl (fun t p => if p.val < s.params.nPorts then f t p else t) s

/-- A loop `for k in 0 .. n-1`. -/
def State.forBlocks (s : State) (n : Nat) (f : State → Nat → State) : State := (List.range n).foldl f s

/-! ### Teardown, SYNC and the hardware reset -/

/-- `W, R, W@C, R@P <- 0` (R331, R332, R337). -/
def State.clearIndices (s : State) : State := { s with wIdx := 0, rIdx := 0, wAtC := 0, rAtP := 0 }

/-- `teardown()` (R337), with the `LC <- CLOSED` that both its callers add (R332, R335). -/
def State.teardown (s : State) : State :=
  { s.clearPorts.clearIndices with hdrSize := 0, cap := 0, maxPkt := 0, cpktValid := false, brp := false, lc := .closed }

/-- SYNC(X): `X@D <- X` (R127). CNT_OVERFLOW has a shadow only for `DIR = RX` and CNT_UNDERFLOW only for `DIR = TX`
(R126, log 8). -/
def State.sync (s : State) : CdcReg → State
  | .w => { s with wAtC := s.wIdx }
  | .r => { s with rAtP := s.rIdx }
  | .cntOverflow =>
    match s.dir with
    | .rx => { s with shadows := { s.shadows with overflow := s.counters.overflow } }
    | .tx => s
  | .cntUnderflow =>
    match s.dir with
    | .rx => s
    | .tx => { s with shadows := { s.shadows with underflow := s.counters.underflow } }
  | .cntIsoProto => { s with shadows := { s.shadows with isoProto := s.counters.isoProto } }
  | .cntLlDropped => { s with shadows := { s.shadows with llDropped := s.counters.llDropped } }
  | .cntBusReset => { s with shadows := { s.shadows with busReset := s.counters.busReset } }
  | .isoDbcNext => { s with shadows := { s.shadows with isoDbcNext := s.isoDbcNext } }

/-- `hw_reset` (R500): every register at its reset value, the memories unspecified again. The parameters are fixed and
the model's own fields go on (log 11). -/
def State.hardwareReset (s : State) : State :=
  { State.resetOf s.params with input := s.input, draw := s.draw, resp := s.resp }

end Sys2Proof.Machine
end

