-- ==== Sys2Proof/Machine/Csr.lean ====
section
/-! DEFINITION. The CSR window (R52): the map of offsets, what a host read returns, what a host write to a register other
than CMD does, and the bus errors of R457. A write to CMD runs a command: Machine/Transaction.lean. -/

namespace Sys2Proof.Machine

/-- The registers of the CSR map (R52). -/
inductive Csr
  | id | param0 | param1 | param2 | param3 | param4 | cmd | status | chan | dim
  | arg (i : Fin 8) | res (i : Fin 4)
  | supported | txCip | txIso | dbcTx | rbHdrSize | rbCap | rbMaxPkt | rbWIdx | rbRIdx
  | cpktLen | cpktMeta | cpktCtr | lastCip0 | lastCip1 | lastTs | sytmonLast | ctLastSec | ctEpoch | isoDbcNext
  | counter (k : Counter) | port (p : Fin 64) | portStat (p : Fin 64)
  /-- TXB bytes `a .. a+3`. -/
  | txb (a : Nat)
  deriving DecidableEq, Repr

/-- The single registers of R52's map by their offset. -/
def csrTable : List (Nat × Csr) :=
  [ (0x0000, .id), (0x0004, .param0), (0x0008, .param1), (0x000C, .param2), (0x0010, .param3), (0x0014, .param4),
    (0x0020, .cmd), (0x0024, .status), (0x0028, .chan), (0x002C, .dim),
    (0x0060, .supported), (0x0064, .txCip), (0x0068, .txIso), (0x006C, .dbcTx),
    (0x0070, .rbHdrSize), (0x0074, .rbCap), (0x0078, .rbMaxPkt), (0x007C, .rbWIdx), (0x0080, .rbRIdx),
    (0x0084, .cpktLen), (0x0088, .cpktMeta), (0x008C, .cpktCtr), (0x0090, .lastCip0), (0x0094, .lastCip1),
    (0x0098, .lastTs), (0x009C, .sytmonLast), (0x00A0, .ctLastSec), (0x00A4, .ctEpoch), (0x00A8, .isoDbcNext),
    (0x00C0, .counter .overflow), (0x00C4, .counter .underflow), (0x00C8, .counter .isoProto),
    (0x00CC, .counter .llDropped), (0x00D0, .counter .busReset), (0x00D4, .counter .proto),
    (0x00D8, .counter .portOvf), (0x00DC, .counter .portUnf), (0x00E0, .counter .midiDiscard),
    (0x00E4, .counter .sytmon) ]

/-- The register at a byte offset; `none` for a reserved or unaligned offset, one past the window's end among them (R52,
R131). -/
def csrAt (p : Params) (off : Nat) : Option Csr :=
  if off % 4 ≠ 0 then none
  else match csrTable.lookup off with
    | some r => some r
    | none =>
      if 0x0030 ≤ off ∧ off < 0x0050 then some (.arg (Fin.ofNat 8 ((off - 0x0030) / 4)))
      else if 0x0050 ≤ off ∧ off < 0x0060 then some (.res (Fin.ofNat 4 ((off - 0x0050) / 4)))
      else if 0x0100 ≤ off ∧ off < 0x0200 ∧ (off - 0x0100) / 4 < p.nPorts then
        some (.port (Fin.ofNat 64 ((off - 0x0100) / 4)))
      else if 0x0200 ≤ off ∧ off < 0x0300 ∧ (off - 0x0200) / 4 < p.nPorts then
        some (.portStat (Fin.ofNat 64 ((off - 0x0200) / 4)))
      else if 0x1000 ≤ off ∧ off - 0x1000 < p.maxPktLimit then some (.txb (off - 0x1000))
      else none

/-- The offset of CMD (R52). -/
def cmdOffset : Nat := 0x0020

/-- The ID constant (R52). -/
def idValue : Word := 0x1394A824

/-- A counter as the host reads it: a counter that ISO owns is read through its shadow (R61, R127). -/
def State.readCounter (s : State) : Counter → Word
  | .overflow => match s.dir with | .rx => s.shadows.overflow | .tx => s.counters.overflow
  | .underflow => match s.dir with | .rx => s.counters.underflow | .tx => s.shadows.underflow
  | .isoProto => s.shadows.isoProto
  | .llDropped => s.shadows.llDropped
  | .busReset => s.shadows.busReset
  | .proto => s.counters.proto
  | .portOvf => s.counters.portOvf
  | .portUnf => s.counters.portUnf
  | .midiDiscard => s.counters.midiDiscard
  | .sytmon => s.counters.sytmon

/-- ENABLED, bit [5] of a port entry (R176). -/
def entryEnabledBit : Word := 0x00000020

/-- PORT[p] (R63): the entry with ENABLED [5], which is not stored, computed by R67. -/
def State.portWord (s : State) (p : Fin 64) : Word :=
  (s.ports[p].entry &&& ~~~entryEnabledBit) ||| (if s.portEnabled p then entryEnabledBit else 0)

/-- The number of items in a port's queue (R64). -/
def Port.queued (q : Port) : Nat :=
  if entryValid q.entry then
    match entryType q.entry with
    | .midi => match entryDir q.entry with | .rx => q.mq.length | .tx => q.eq.length
    | .audio | .control | .reserved => q.pf.length
  else 0

/-- PORTSTAT[p] (R64): RS[31:24], [23:18] 0, MSTATE[17:16], FILL[15:0]. -/
def Port.statWord (q : Port) : Word :=
  if isMidiPort .rx q.entry then q.md.rsb ++ 0#6 ++ q.md.ms.code ++ BitVec.ofNat 16 q.queued
  else 0#16 ++ BitVec.ofNat 16 q.queued

/-- What a host read of a register returns (R52). -/
def State.readCsr (s : State) : Csr → Word
  | .id => idValue
  | .param0 => 0#23 ++ wrapModeCode s.params.wrapMode ++ BitVec.ofNat 8 s.params.nPorts
  | .param1 => BitVec.ofNat 32 s.params.ramBytes
  | .param2 => BitVec.ofNat 16 s.params.maxPktLimit ++ BitVec.ofNat 16 s.params.capMax
  | .param3 => BitVec.ofNat 16 s.params.midiMsgDepth ++ BitVec.ofNat 16 s.params.portDepth
  | .param4 => 0#16 ++ BitVec.ofNat 16 s.params.midiTxDepth
  | .cmd => s.cmd
  | .status => s.statusWord
  | .chan => s.chan.setWidth 32
  | .dim => s.dim.setWidth 32
  | .arg i => s.arg[i]
  | .res i => s.res[i]
  | .supported => s.supported
  | .txCip => s.txCip
  | .txIso => s.txIso
  | .dbcTx => s.dbcTx.setWidth 32
  | .rbHdrSize => s.hdrSize.setWidth 32
  | .rbCap => s.cap.setWidth 32
  | .rbMaxPkt => s.maxPkt.setWidth 32
  | .rbWIdx => s.appW.setWidth 32
  | .rbRIdx => s.appR.setWidth 32
  | .cpktLen => s.cpktLen.setWidth 32
  | .cpktMeta => s.cpktMeta
  | .cpktCtr => s.cpktCtr
  | .lastCip0 => s.lastCip0
  | .lastCip1 => s.lastCip1
  | .lastTs => s.lastTs
  | .sytmonLast => s.sytmonLast
  | .ctLastSec => s.ctLastSec.setWidth 32
  | .ctEpoch => s.ctEpoch
  | .isoDbcNext => s.shadows.isoDbcNext.setWidth 32
  | .counter k => s.readCounter k
  | .port p => s.portWord p
  | .portStat p => s.ports[p].statWord
  | .txb a => s.txbQuad a

/-- What a host write to a register other than CMD does; `none` for a bus error: a read-only register, a reserved bit
set (R55, R56, R57), or TX_CIP or TX_ISO while RUNNING (R457). -/
def State.writeCsr (s : State) (r : Csr) (v : Word) : Option State :=
  match r with
  | .arg i => some { s with arg := s.arg.set i.val v i.isLt }
  | .supported => if v &&& supportedReserved = 0 then some { s with supported := v } else none
  | .txCip => if v &&& txCipReserved = 0 ∧ s.lc ≠ .running then some { s with txCip := v } else none
  | .txIso => if v &&& txIsoReserved = 0 ∧ s.lc ≠ .running then some { s with txIso := v } else none
  | .txb a => some (s.writeTxb a (putBe32 v))
  | _ => none

/-- A host read (R131, R457): it changes nothing but the answer. -/
def State.hostRead (s : State) (bits off : Nat) : State :=
  if bits ≠ 32 then s.answer .busError
  else match csrAt s.params off with
    | some r => s.answer (.readData (s.readCsr r))
    | none => s.answer .busError

end Sys2Proof.Machine
end

