-- ==== Sys2Proof/Machine/IsoStream.lean ====
section
/-! DEFINITION. The ISO transactions and the lifecycle commands (42_isostream.md). -/

namespace Sys2Proof.Machine

/-! ### ISO transactions -/

/-- The checks and effect of an enabled ISO_PUT (R310). -/
def State.receive (s : State) (data : List Byte) (channel : BitVec 6) (tag : BitVec 2) (sy : BitVec 4)
    (cycle : BitVec 13) (ctr : Word) : State :=
  if channel ≠ s.chan then s.count .isoProto
  else if data.length < s.hdrSize.toNat ∨ s.maxPkt.toNat < data.length then s.count .isoProto
  else if s.producerFill = s.cap.toNat then s.count .overflow
  else s.ringAdd data tag sy cycle ctr

/-- ISO_PUT (R310). A transaction that is not enabled does not occur (R315, log 4). -/
def execIsoPut (data : List Byte) (channel : BitVec 6) (tag : BitVec 2) (sy : BitVec 4) (cycle : BitVec 13)
    (dropped ctr : Word) (s : State) : Result :=
  if s.putEnabled then
    .next (((s.addTo .llDropped dropped).receive data channel tag sy cycle ctr).answer (.isoPut .ok))
  else .next (s.answer .notEnabled)

/-- `nodata()` (R313). -/
def State.noData (s : State) : List Byte :=
  putBe32 (makeCip0 (txCipSid s.txCip) s.dim s.isoDbcNext) ++
    putBe32 (makeCip1 (txCipFmt s.txCip) (txCipFdf s.txCip) 0xFFFF)

/-- The DBC after the last block of the packet `b` (R311). -/
def State.dbcAfter (s : State) (b : List Byte) : BitVec 8 :=
  BitVec.ofNat 8 ((b.getD 3 0).toNat + (b.length - 8) / (4 * s.dim.toNat))

/-- The state change and the bytes of an ISO_GET once `dropped` is counted and `maxLength` is at least 8 (R311). -/
def State.transmit (s : State) (maxLength : Nat) : State × List Byte :=
  if s.consumerFill = 0 then (s.count .underflow, s.noData)
  else if maxLength < s.headMeta.len.toNat ∨ s.headMeta.len.toNat < 8 then (s.ringDrop.count .isoProto, s.noData)
  else ({ s.ringDrop with isoDbcNext := s.dbcAfter s.headBytes }, s.headBytes)

/-- ISO_GET (R311). A transaction that is not enabled does not occur (R315, log 4). -/
def execIsoGet (_cycle : BitVec 13) (dropped : Word) (maxLength : BitVec 16) (s : State) : Result :=
  if s.getEnabled then
    if maxLength.toNat < 8 then .fault .ifMaxLen
    else
      let r := (s.addTo .llDropped dropped).transmit maxLength.toNat
      .next (r.1.answer (.isoGet r.2 (BitVec.ofNat 16 r.2.length) (txIsoTag s.txIso) (txIsoSy s.txIso) .ok))
  else .next (s.answer .notEnabled)

/-- ISO_BUS_RESET (R312): always enabled, no outputs. -/
def execIsoBusReset (s : State) : Result :=
  if s.lc = .closed then .next (s.answer .none)
  else .next (({ s with brp := true }.count .busReset).answer .none)

/-! ### Lifecycle commands -/

/-- NOP (R330). -/
def execNop (s : State) : Result := s.succeeds

/-- The effect of OPEN (R331). -/
def State.openFor (s : State) (ch : BitVec 6) (d : Direction) (dim : BitVec 8) : State :=
  { s.clearPorts.clearIndices with
    chan := ch, dir := d, dim := dim, counters := Counters.zero, shadows := Shadows.zero, dbcTx := 0, isoDbcNext := 0,
    cpktLen := 0, cpktMeta := 0, cpktCtr := 0, lastCip0 := 0, lastCip1 := 0, lastTs := 0, sytmonLast := 0,
    cpktValid := false, tsValid := false, sytmonHave := false, brp := false, lc := .opened }

/-- OPEN (R331). -/
def execOpenStream (s : State) : Result :=
  if s.lc ≠ .closed then s.fails .eState
  else match s.argField 0 6, s.argField 1 1, s.argField 2 8 with
    | some ch, some d, some dim =>
      if dim = 0 then s.fails .eArg else (s.openFor ch (directionOf d) dim).succeeds
    | _, _, _ => s.fails .eArg

/-- The effect of INIT (R332). -/
def State.initRing (s : State) (hdr : BitVec 13) (cap : BitVec 14) (maxpkt : BitVec 13) : State :=
  { s.clearIndices with hdrSize := hdr, cap := cap, maxPkt := maxpkt, lc := .ready }

/-- INIT's operands are within their legal values (R332 check 2). -/
def State.initArgsLegal (s : State) (hdr : BitVec 13) (cap : BitVec 14) (maxpkt : BitVec 13) : Bool :=
  decide (cap ≠ 0) && decide (cap.toNat ≤ s.params.capMax) && decide (maxpkt ≠ 0) &&
    decide (maxpkt.toNat ≤ s.params.maxPktLimit) && decide (hdr.toNat ≤ maxpkt.toNat)

/-- INIT (R332). -/
def execInit (s : State) : Result :=
  if s.lc ≠ .opened then s.fails .eState
  else match s.argField 0 13, s.argField 1 14, s.argField 2 13 with
    | some hdr, some cap, some maxpkt =>
      if s.initArgsLegal hdr cap maxpkt then
        if s.params.ramBytes < cap.toNat * maxpkt.toNat then s.teardown.fails .eResource
        else (s.initRing hdr cap maxpkt).succeeds
      else s.fails .eArg
    | _, _, _ => s.fails .eArg

/-- START (R333). -/
def execStart (s : State) : Result :=
  if s.lc = .ready ∨ s.lc = .stopped then { s with lc := .running }.succeeds else s.fails .eState

/-- STOP (R334). -/
def execStop (s : State) : Result :=
  if s.lc = .running then { s with lc := .stopped }.succeeds else s.fails .eState

/-- CLOSE (R335). -/
def execClose (s : State) : Result :=
  if s.lc = .opened ∨ s.lc = .ready ∨ s.lc = .stopped then s.teardown.succeeds else s.fails .eState

/-- RESUME (R336). -/
def execResume (s : State) : Result :=
  if s.lc = .closed ∨ s.brp = false then s.fails .eState
  else match s.argField 0 6 with
    | some ch => { s with chan := ch, brp := false }.succeeds
    | none => s.fails .eArg

end Sys2Proof.Machine
end

