-- ==== Sys2Proof/Machine/PacketBuffer.lean ====
section
/-! DEFINITION. The packet ring commands (41_packetbuffer.md): RB_ADD, RB_GET, RB_FILL_PACKETS, RB_FILL_PAYLOAD. -/

namespace Sys2Proof.Machine

/-- RB_ADD (R271). The transmit ring's metadata is stored as 0. -/
def execRbAdd (s : State) : Result :=
  if !s.lc.ringReady || decide (s.dir ≠ .tx) then s.fails .eState
  else match s.argField 0 13 with
    | none => s.fails .eArg
    | some len =>
      if len.toNat < s.hdrSize.toNat then s.fails .eArg
      else if s.maxPkt.toNat < len.toNat then s.fails .eTooLong
      else if s.producerFill = s.cap.toNat then (s.count .overflow).fails .eOverflow
      else (s.ringAdd (s.txbBytes 0 len.toNat) 0 0 0 0).succeeds

/-- What RB_GET changes besides RES (R272): the packet at the head of the ring goes to TXB. -/
def State.fetchPacket (s : State) : State :=
  { (s.ringDrop.writeTxb 0 s.headBytes) with
    cpktLen := s.headMeta.len
    cpktMeta := metaWord s.headMeta.tag s.headMeta.sy s.headMeta.cycle
    cpktCtr := s.headMeta.ctr
    cpktValid := true }

/-- RB_GET (R272). -/
def execRbGet (s : State) : Result :=
  if !s.lc.ringReady || decide (s.dir ≠ .rx) then s.fails .eState
  else match s.argField 0 16 with
    | none => s.fails .eArg
    | some maxLength =>
      if s.consumerFill = 0 then (s.count .underflow).fails .eUnderflow
      else if maxLength.toNat < s.headMeta.len.toNat then s.fails .eTooLong
      else
        (((s.fetchPacket.withRes 0 (s.headMeta.len.setWidth 32)).withRes 1
          (metaWord s.headMeta.tag s.headMeta.sy s.headMeta.cycle)).withRes 2 s.headMeta.ctr).succeeds

/-- `fill(app_w, app_r)` (R270, R273). -/
def State.appFill (s : State) : Nat := fill s.cap s.appW s.appR

/-- RB_FILL_PACKETS (R273). -/
def execRbFillPackets (s : State) : Result :=
  if s.lc.ringReady then (s.withRes 0 (lowWord s.appFill)).succeeds else s.fails .eState

/-- The sum of R274 over the packets in the APP side's view. -/
def State.payloadSum (s : State) : Int :=
  ((List.range s.appFill).map fun j =>
    ((s.metaAt (slot s.cap (s.appR.toNat + j))).len.toNat : Int) - (s.hdrSize.toNat : Int)).sum

/-- RB_FILL_PAYLOAD (R274). -/
def execRbFillPayload (s : State) : Result :=
  if s.lc.ringReady then (s.withRes 0 (BitVec.ofInt 32 s.payloadSum)).succeeds else s.fails .eState

end Sys2Proof.Machine
end

