-- ==== Sys2Proof/Machine/CycleTimer.lean ====
section
/-! DEFINITION. Cycle-timer arithmetic and the SYT monitor (40_cycletimer.md): the functions of R233, R234, R238, R241
and the six commands. -/

namespace Sys2Proof.Machine

/-- `carry(base, e, wrap)` (R234). -/
def carry (mode : WrapMode) (base : Nat) (e : BitVec 7) (wrap : Bool) : BitVec 13 × BitVec 7 :=
  match mode with
  | .normalised =>
    if Config.cyclesPerSecond ≤ base then (BitVec.ofNat 13 (base - Config.cyclesPerSecond), e + 1)
    else (BitVec.ofNat 13 base, e)
  | .literal => (BitVec.ofNat 13 base, if wrap then e + 1 else e)

/-- The `wrap` of R233: the SYT's nibble is below the receipt cycle's. -/
def reconWrap (y : BitVec 16) (t : Word) : Bool := decide ((sytNib y).toNat < (ctrCyc t).toNat % 16)

/-- The `base` of R233. -/
def reconBase (y : BitVec 16) (t : Word) : Nat :=
  (ctrCyc t).toNat - (ctrCyc t).toNat % 16 + (sytNib y).toNat + (if reconWrap y t then 16 else 0)

/-- `recon(y, t, e)` (R233): the full timestamp and whether a wrap was applied. -/
def recon (mode : WrapMode) (y : BitVec 16) (t : Word) (e : BitVec 7) : Word × Bool :=
  let wrap := reconWrap y t
  let c := carry mode (reconBase y t) e wrap
  (makeCtr c.2 c.1 (sytOff y), wrap)

/-- `tick128(t)` (R238). -/
def tick128 (t : Word) : Nat :=
  ((ctrSec t).toNat * Config.cyclesPerSecond + (ctrCyc t).toNat) * Config.ticksPerCycle + (ctrOff t).toNat

/-- `tick_of(t, epoch)` (R238). -/
def tickOf (t : Word) (epoch : Nat) : Nat :=
  ((epoch * Config.secondsMod + (ctrSec t).toNat) * Config.cyclesPerSecond + (ctrCyc t).toNat) * Config.ticksPerCycle +
    (ctrOff t).toNat

/-- The CTR value of a 64-bit tick count (R240). -/
def ctrOfTicks (v : Nat) : Word :=
  makeCtr (BitVec.ofNat 7 (v / Config.ticksPerSecond % Config.secondsMod))
    (BitVec.ofNat 13 (v / Config.ticksPerCycle % Config.cyclesPerSecond)) (BitVec.ofNat 12 (v % Config.ticksPerCycle))

/-- The `mism` of R241: the timestamp does not carry the SYT. -/
def sytMismatch (y : BitVec 16) (ts : Word) : Bool := decide (ts.extractLsb' 0 16 ≠ y)

/-- The `back` of R241: `ts` is behind the last checked timestamp by up to half a wrap. -/
def State.sytBackward (s : State) (ts : Word) : Bool :=
  s.sytmonHave && decide ((Config.ticksPerWrap / 2 : Int) ≤
    ((tick128 ts : Int) - (tick128 s.sytmonLast : Int)) % (Config.ticksPerWrap : Int))

/-- The state change of `syt_check(y, ts)` (R241). -/
def State.sytCheck (s : State) (y : BitVec 16) (ts : Word) : State :=
  let s1 := if sytMismatch y ts || s.sytBackward ts then s.count .sytmon else s
  { s1 with sytmonLast := ts, sytmonHave := true }

/-- The value `syt_check(y, ts)` returns: `mism | back << 1` (R241). -/
def State.sytResult (s : State) (y : BitVec 16) (ts : Word) : Word :=
  0#30 ++ BitVec.ofBool (s.sytBackward ts) ++ BitVec.ofBool (sytMismatch y ts)

/-- CT_TICKS_TO_CYCLES (R231). -/
def execCtTicksToCycles (s : State) : Result :=
  let t := s.argTicks
  let c := t / Config.ticksPerCycle
  ((((s.withRes 0 (lowWord (c % Config.cyclesPerSecond))).withRes 1 (lowWord (t % Config.ticksPerCycle))).withRes 2
    (lowWord c)).withRes 3 (highWord c)).succeeds

/-- CT_CYCLES_TO_TICKS (R232). -/
def execCtCyclesToTicks (s : State) : Result :=
  if Config.ticksPerCycle ≤ s.arg[1].toNat then s.fails .eArg
  else
    let v := s.arg[0].toNat * Config.ticksPerCycle + s.arg[1].toNat
    ((s.withRes 0 (lowWord v)).withRes 1 (highWord v)).succeeds

/-- CT_RECONSTRUCT (R235): writes RES only. -/
def execCtReconstruct (s : State) : Result :=
  match s.argField 0 16, s.argField 2 7 with
  | some y, some e =>
    let t := s.arg[1]
    if ctrValid t then
      if sytValid y then
        let r := recon s.params.wrapMode y t e
        ((s.withRes 0 r.1).withRes 1 (if r.2 then 1 else 0)).succeeds
      else s.fails .eArg
    else s.fails .eArg
  | _, _ => s.fails .eArg

/-- The `adv` of R239. -/
def State.epochAdvances (s : State) (t : Word) : Bool := s.ctHave && decide ((ctrSec t).toNat < s.ctLastSec.toNat)

/-- The state change of CT_TO_TICKS before its results (R239). -/
def State.extendTicks (s : State) (t : Word) : State :=
  { s with
    ctEpoch := if s.epochAdvances t then s.ctEpoch + 1 else s.ctEpoch
    ctLastSec := ctrSec t
    ctHave := true }

/-- CT_TO_TICKS (R239). -/
def execCtToTicks (s : State) : Result :=
  let t := s.arg[0]
  if ctrValid t then
    let s1 := s.extendTicks t
    let v := tickOf t s1.ctEpoch.toNat
    (((s1.withRes 0 (lowWord v)).withRes 1 (highWord v)).withRes 2 (if s.epochAdvances t then 1 else 0)).succeeds
  else s.fails .eArg

/-- CT_FROM_TICKS (R240). -/
def execCtFromTicks (s : State) : Result := (s.withRes 0 (ctrOfTicks s.argTicks)).succeeds

/-- CT_SYT_CHECK (R242). -/
def execCtSytCheck (s : State) : Result :=
  match s.argField 0 16 with
  | some y => ((s.sytCheck y s.arg[1]).withRes 0 (s.sytResult y s.arg[1])).succeeds
  | none => s.fails .eArg

end Sys2Proof.Machine
end

