-- ==== Sys2Proof/Machine/Midi.lean ====
section
/-! DEFINITION. The MIDI bridge (44_midi.md): the length table, the running-status decoder, the encoder's check, and
MIDI_DECODE, MIDI_READ, MIDI_ENCODE. -/

namespace Sys2Proof.Machine

/-- `datalen(s)` (R410); `none` for the unsupported status bytes and for a byte that is no status byte. -/
def datalen (b : Byte) : Option Nat :=
  let n := b.toNat
  if n < 0x80 then none
  else if n < 0xC0 then some 2
  else if n < 0xE0 then some 1
  else if n < 0xF0 then some 2
  else if n = 0xF1 then some 1
  else if n = 0xF2 then some 2
  else if n = 0xF3 then some 1
  else if n = 0xF6 then some 0
  else if 0xF8 ≤ n then some 0
  else none

/-- The unsupported status bytes 0xF0, 0xF4, 0xF5, 0xF7 (R410, R411). -/
def midiUnsupported (b : Byte) : Bool := decide (b = 0xF0 ∨ b = 0xF4 ∨ b = 0xF5 ∨ b = 0xF7)

/-- What one byte does to a decoder: the new state, the message completed, and how many times CNT_MIDI_DISCARD counts. -/
structure MidiFeed where
  md : MidiDecoder
  msg : Option Word
  discards : Nat
  deriving DecidableEq, Repr

/-- A status byte below 0xF8 (R411): it drops an incomplete message and starts a new one. -/
def feedStatus (md : MidiDecoder) (b : Byte) : MidiFeed :=
  let dropped := if md.ms = .awaitStatus then 0 else 1
  let rsb := if b.toNat < 0xF0 then b else 0
  if midiUnsupported b then { md := MidiDecoder.idle, msg := none, discards := dropped + 1 }
  else if datalen b = some 0 then
    { md := { MidiDecoder.idle with rsb := rsb }, msg := some (midiWord 1 b 0 0), discards := dropped }
  else { md := { ms := .awaitData1, rsb := rsb, cur := b, d1 := 0 }, msg := none, discards := dropped }

/-- A data byte (R411). -/
def feedData (md : MidiDecoder) (b : Byte) : MidiFeed :=
  match md.ms with
  | .awaitStatus =>
    if md.rsb = 0 then { md := md, msg := none, discards := 1 }
    else if datalen md.rsb = some 1 then
      { md := { md with cur := 0 }, msg := some (midiWord 2 md.rsb b 0), discards := 0 }
    else { md := { md with cur := md.rsb, d1 := b, ms := .awaitData2 }, msg := none, discards := 0 }
  | .awaitData1 =>
    if datalen md.cur = some 1 then
      { md := { md with ms := .awaitStatus, cur := 0 }, msg := some (midiWord 2 md.cur b 0), discards := 0 }
    else { md := { md with d1 := b, ms := .awaitData2 }, msg := none, discards := 0 }
  | .awaitData2 =>
    { md := { md with ms := .awaitStatus, cur := 0, d1 := 0 }, msg := some (midiWord 3 md.cur md.d1 b), discards := 0 }

/-- `midi_feed` on a decoder (R411). -/
def feedByte (md : MidiDecoder) (b : Byte) : MidiFeed :=
  if 0xF8 ≤ b.toNat then { md := md, msg := some (midiWord 1 b 0 0), discards := 0 }
  else if 0x80 ≤ b.toNat then feedStatus md b
  else feedData md b

/-- `emit` (R412): queue the message, or drop it and count CNT_PORT_OVF. -/
def State.emitMessage (s : State) (p : Fin 64) (m : Word) : State :=
  let q := s.ports[p]
  if q.mq.length < s.params.midiMsgDepth then s.setPort p { q with mq := q.mq ++ [m] } else s.count .portOvf

/-- `midi_feed(p, b)` (R411). -/
def State.midiFeed (s : State) (p : Fin 64) (b : Byte) : State :=
  let r := feedByte s.ports[p].md b
  let s1 := (s.setPort p { s.ports[p] with md := r.md }).addTo .midiDiscard (BitVec.ofNat 32 r.discards)
  match r.msg with
  | some m => s1.emitMessage p m
  | none => s1

/-- MIDI_DECODE (R413). -/
def execMidiDecode (s : State) : Result :=
  if s.lc = .closed then s.fails .eState
  else match s.argPort, s.argField 1 8 with
    | some p, some b =>
      if isMidiPort .rx s.ports[p].entry then
        let m := (feedByte s.ports[p].md b).msg
        (((s.midiFeed p b).withRes 0 (if m.isSome then 1 else 0)).withRes 1 (m.getD 0)).succeeds
      else s.fails .ePort
    | _, _ => s.fails .eArg

/-- MIDI_READ (R414). -/
def execMidiRead (s : State) : Result :=
  if s.lc = .closed then s.fails .eState
  else match s.argPort with
    | none => s.fails .eArg
    | some p =>
      let q := s.ports[p]
      if isMidiPort .rx q.entry then
        match q.mq with
        | [] => s.fails .eUnderflow
        | m :: rest => ((s.setPort p { q with mq := rest }).withRes 0 m).succeeds
      else s.fails .ePort

/-- The message word passes check 4 of R415. -/
def midiWordLegal (m : Word) : Bool :=
  let n := midiLen m
  decide (m.extractLsb' 26 6 = 0) && decide (0x80 ≤ (midiB0 m).toNat) && !midiUnsupported (midiB0 m) &&
    decide ((datalen (midiB0 m)).map (· + 1) = some n) &&
    (if 2 ≤ n then decide ((midiB1 m).toNat < 0x80) else decide (midiB1 m = 0)) &&
    (if 3 ≤ n then decide ((midiB2 m).toNat < 0x80) else decide (midiB2 m = 0))

/-- The bytes a legal message word is sent as (R415): `b0`, then `b1` and `b2` as its length says. -/
def midiBytes (m : Word) : List Byte := [midiB0 m, midiB1 m, midiB2 m].take (midiLen m)

/-- MIDI_ENCODE (R415). -/
def execMidiEncode (s : State) : Result :=
  if s.lc = .closed then s.fails .eState
  else match s.argPort with
    | none => s.fails .eArg
    | some p =>
      let q := s.ports[p]
      let m := s.arg[1]
      if isMidiPort .tx q.entry then
        if midiWordLegal m then
          if s.params.midiTxDepth < q.eq.length + midiLen m then s.fails .eOverflow
          else (s.setPort p { q with eq := q.eq ++ midiBytes m }).succeeds
        else s.fails .eMidi
      else s.fails .ePort

end Sys2Proof.Machine
end

