-- ==== Sys2Proof/Machine/StreamProcessor.lean ====
section
/-! DEFINITION. The port table, the demultiplexer and the multiplexer (43_streamprocessor.md). -/

namespace Sys2Proof.Machine

/-! ### Configuration and port table -/

/-- SET_CONFIG (R361). -/
def execSetConfig (s : State) : Result :=
  match s.argField 0 2, s.argField 1 2 with
  | some t, some o =>
    match tierOf t, optModeOf o with
    | some tier, some opt =>
      if s.supported.getLsbD (configIndex tier opt) then { s with tier := tier, opt := opt }.succeeds
      else s.fails .eConfig
    | _, _ => s.fails .eArg
  | _, _ => s.fails .eArg

/-- ADD_PORT's check 7 (R362): another valid port of a transmit stream has a slot that overlaps `e`'s. -/
def State.overlapsOther (s : State) (p : Fin 64) (e : Word) : Bool :=
  (List.finRange 64).any fun q =>
    decide (q.val < s.params.nPorts) && decide (q ≠ p) && entryValid s.ports[q].entry && slotsOverlap e s.ports[q].entry

/-- ADD_PORT (R362). -/
def execAddPort (s : State) : Result :=
  if s.lc = .closed then s.fails .eState
  else match s.argPort with
    | none => s.fails .eArg
    | some p =>
      let e := s.arg[1]
      if e &&& entryMustBeZero ≠ 0 ∨ entryType e = .reserved then s.fails .eArg
      else if entryDir e ≠ s.dir then s.fails .ePort
      else if entryType e = .midi ∧ entryWide e = false then s.fails .ePort
      else if 4 * s.dim.toNat < entryOffset e + entryWidth e then s.fails .ePort
      else if s.dir = .tx ∧ s.overlapsOther p e = true then s.fails .ePort
      else (s.setPort p { Port.empty with entry := e ||| 1 }).succeeds

/-- REMOVE_PORT (R363). -/
def execRemovePort (s : State) : Result :=
  if s.lc = .closed then s.fails .eState
  else match s.argPort with
    | none => s.fails .eArg
    | some p => if entryValid s.ports[p].entry then (s.setPort p Port.empty).succeeds else s.fails .ePort

/-! ### Port FIFO access -/

/-- PORT_READ (R364). -/
def execPortRead (s : State) : Result :=
  if s.lc = .closed then s.fails .eState
  else match s.argPort with
    | none => s.fails .eArg
    | some p =>
      let q := s.ports[p]
      if isSamplePort .rx q.entry then
        match q.pf with
        | [] => s.fails .eUnderflow
        | v :: rest => ((s.setPort p { q with pf := rest }).withRes 0 v).succeeds
      else s.fails .ePort

/-- PORT_WRITE (R365). -/
def execPortWrite (s : State) : Result :=
  if s.lc = .closed then s.fails .eState
  else match s.argPort with
    | none => s.fails .eArg
    | some p =>
      let q := s.ports[p]
      let v := s.arg[1]
      if isSamplePort .tx q.entry then
        if entryWide q.entry = false ∧ v.extractLsb' 24 8 ≠ 0 then s.fails .eArg
        else if s.params.portDepth ≤ q.pf.length then s.fails .eOverflow
        else (s.setPort p { q with pf := q.pf ++ [v] }).succeeds
      else s.fails .ePort

/-! ### Demultiplexing -/

/-- `midi_slot` (R369). -/
def State.midiSlot (s : State) (p : Fin 64) (m0 m1 m2 m3 : Byte) : State :=
  if m0 = 0x80 then s
  else if m0 = 0x81 then s.midiFeed p m1
  else if m0 = 0x82 then (s.midiFeed p m1).midiFeed p m2
  else if m0 = 0x83 then ((s.midiFeed p m1).midiFeed p m2).midiFeed p m3
  else s.count .midiDiscard

/-- Queue a captured sample, or drop it and count CNT_PORT_OVF (R368). -/
def State.pushSample (s : State) (p : Fin 64) (v : Word) : State :=
  let q := s.ports[p]
  if q.pf.length < s.params.portDepth then s.setPort p { q with pf := q.pf ++ [v] } else s.count .portOvf

/-- `extract(p, d)` (R368), with the data block `d` at TXB byte `base`. -/
def State.extractPort (s : State) (base : Nat) (p : Fin 64) : State :=
  let e := s.ports[p].entry
  let a := base + entryOffset e
  match entryType e with
  | .audio | .control =>
    s.pushSample p (sampleValue (entryWide e) (s.txbByte a) (s.txbByte (a + 1)) (s.txbByte (a + 2)) (s.txbByte (a + 3)))
  | .midi => s.midiSlot p (s.txbByte a) (s.txbByte (a + 1)) (s.txbByte (a + 2)) (s.txbByte (a + 3))
  | .reserved => s

/-- One data block: the enabled ports in ascending index (R366). -/
def State.demuxBlock (s : State) (base : Nat) : State :=
  s.forPorts fun t p => if t.portEnabled p then t.extractPort base p else t

/-- `N` data blocks of `B` bytes from TXB byte 8 (R366). -/
def State.demuxBlocks (s : State) (B N : Nat) : State := s.forBlocks N fun t k => t.demuxBlock (8 + B * k)

/-- The timestamp SP_DEMUX makes of the SYT `y`, if it makes one (R366): both `CPKT_CTR` and the SYT must be valid, and
the seconds estimate is the receipt CTR's own. -/
def State.demuxTimestamp (s : State) (y : BitVec 16) : Option Word :=
  if ctrValid s.cpktCtr && sytValid y then some (recon s.params.wrapMode y s.cpktCtr (ctrSec s.cpktCtr)).1 else none

/-- What that timestamp changes (R366). -/
def State.noteTimestamp (s : State) (y : BitVec 16) : Option Word → State
  | some ts => { s with lastTs := ts, tsValid := true }.sytCheck y ts
  | none => s

/-- `proto(E)` (R366). -/
def State.protoFails (s : State) (e : ErrCode) : Result := { s.count .proto with cpktValid := false }.fails e

/-- The state after `header(L)` (R367). -/
def State.parseHeader (s : State) : State := { s with lastCip0 := s.txbQuad 0, lastCip1 := s.txbQuad 4 }

/-- SP_DEMUX past its protocol checks, on the state after `header(L)` with `N` data blocks (R366). -/
def State.demuxPacket (s : State) (N : Nat) : State :=
  let y := cipSyt s.lastCip1
  let ts := s.demuxTimestamp y
  let s1 := (s.noteTimestamp y ts).demuxBlocks (4 * s.dim.toNat) N
  ((({ s1 with cpktValid := false }.withRes 0 (lowWord N)).withRes 1 (if ts.isSome then 1 else 0)).withRes 2 (ts.getD 0))

/-- SP_DEMUX (R366). -/
def execSpDemux (s : State) : Result :=
  if !s.lc.ringReady || decide (s.dir ≠ .rx) || !s.cpktValid then s.fails .eState
  else if s.cpktLen.toNat < 8 then s.protoFails .eProtoShort
  else
    let s1 := s.parseHeader
    let B := 4 * s.dim.toNat
    if cipDbs s1.lastCip0 ≠ s.dim then s1.protoFails .eProtoDim
    else if (s.cpktLen.toNat - 8) % B ≠ 0 then s1.protoFails .eProtoLen
    else (s1.demuxPacket ((s.cpktLen.toNat - 8) / B)).succeeds

/-! ### Multiplexing -/

/-- `fill_slot` of an audio or control port (R371). -/
def State.fillSample (s : State) (p : Fin 64) (a : Nat) : State :=
  let q := s.ports[p]
  if s.portEnabled p then
    match q.pf with
    | v :: rest => (s.setPort p { q with pf := rest }).writeTxb a (sampleBytes (entryWide q.entry) v)
    | [] => s.count .portUnf
  else s

/-- `fill_slot` of a MIDI port (R371, R416). -/
def State.fillMidi (s : State) (p : Fin 64) (a : Nat) : State :=
  let q := s.ports[p]
  match s.portEnabled p, q.eq with
  | true, b :: rest => (s.setPort p { q with eq := rest }).writeTxb a [0x81, b, 0, 0]
  | _, _ => s.writeTxb a [0x80, 0, 0, 0]

/-- `fill_slot(p, a)` (R371), with the data block at TXB byte `base`. -/
def State.fillSlot (s : State) (base : Nat) (p : Fin 64) : State :=
  let e := s.ports[p].entry
  match entryType e with
  | .audio | .control => s.fillSample p (base + entryOffset e)
  | .midi => s.fillMidi p (base + entryOffset e)
  | .reserved => s

/-- One data block: the valid ports in ascending index (R370). -/
def State.muxBlock (s : State) (base : Nat) : State :=
  s.forPorts fun t p => if entryValid t.ports[p].entry then t.fillSlot base p else t

/-- `N` data blocks of `B` bytes from TXB byte 8 (R370). -/
def State.muxBlocks (s : State) (B N : Nat) : State := s.forBlocks N fun t k => t.muxBlock (8 + B * k)

/-- The CIP header SP_MUX writes (R370). -/
def State.muxHeader (s : State) (y : BitVec 16) : List Byte :=
  putBe32 (makeCip0 (txCipSid s.txCip) s.dim s.dbcTx) ++ putBe32 (makeCip1 (txCipFmt s.txCip) (txCipFdf s.txCip) y)

/-- The effect of SP_MUX for `N` blocks with SYT `y` (R370). -/
def State.muxPacket (s : State) (N : Nat) (y : BitVec 16) : State :=
  let B := 4 * s.dim.toNat
  let s1 := (s.writeTxb 0 (List.replicate (8 + N * B) 0)).writeTxb 0 (s.muxHeader y)
  { s1.muxBlocks B N with dbcTx := s.dbcTx + BitVec.ofNat 8 N }

/-- SP_MUX (R370). -/
def execSpMux (s : State) : Result :=
  if !s.lc.ringReady || decide (s.dir ≠ .tx) then s.fails .eState
  else match s.argField 0 16, s.argField 1 16 with
    | some n, some y =>
      let L := 8 + n.toNat * (4 * s.dim.toNat)
      if s.maxPkt.toNat < L then s.fails .eTooLong
      else ((s.muxPacket n.toNat y).withRes 0 (lowWord L)).succeeds
    | _, _ => s.fails .eArg

end Sys2Proof.Machine
end

