-- ==== Sys2Proof/Machine/Dispatch.lean ====
section
/-! DEFINITION. exec: one arm per instruction, each one call of its meaning. -/

namespace Sys2Proof.Machine

def exec (i : Instr) (s : State) : Host.Outcome State Fault Refusal :=
  match i with
  | .nop => Sys2Proof.Machine.execNop s
  | .openStream => Sys2Proof.Machine.execOpenStream s
  | .init => Sys2Proof.Machine.execInit s
  | .start => Sys2Proof.Machine.execStart s
  | .stop => Sys2Proof.Machine.execStop s
  | .close => Sys2Proof.Machine.execClose s
  | .resume => Sys2Proof.Machine.execResume s
  | .setConfig => Sys2Proof.Machine.execSetConfig s
  | .addPort => Sys2Proof.Machine.execAddPort s
  | .removePort => Sys2Proof.Machine.execRemovePort s
  | .rbAdd => Sys2Proof.Machine.execRbAdd s
  | .rbGet => Sys2Proof.Machine.execRbGet s
  | .rbFillPackets => Sys2Proof.Machine.execRbFillPackets s
  | .rbFillPayload => Sys2Proof.Machine.execRbFillPayload s
  | .spDemux => Sys2Proof.Machine.execSpDemux s
  | .spMux => Sys2Proof.Machine.execSpMux s
  | .portRead => Sys2Proof.Machine.execPortRead s
  | .portWrite => Sys2Proof.Machine.execPortWrite s
  | .midiDecode => Sys2Proof.Machine.execMidiDecode s
  | .midiRead => Sys2Proof.Machine.execMidiRead s
  | .midiEncode => Sys2Proof.Machine.execMidiEncode s
  | .ctTicksToCycles => Sys2Proof.Machine.execCtTicksToCycles s
  | .ctCyclesToTicks => Sys2Proof.Machine.execCtCyclesToTicks s
  | .ctReconstruct => Sys2Proof.Machine.execCtReconstruct s
  | .ctToTicks => Sys2Proof.Machine.execCtToTicks s
  | .ctFromTicks => Sys2Proof.Machine.execCtFromTicks s
  | .ctSytCheck => Sys2Proof.Machine.execCtSytCheck s
  | .isoPut data channel tag sy cycle dropped ctr => Sys2Proof.Machine.execIsoPut data channel tag sy cycle dropped ctr s
  | .isoGet cycle dropped maxLength => Sys2Proof.Machine.execIsoGet cycle dropped maxLength s
  | .isoBusReset => Sys2Proof.Machine.execIsoBusReset s

end Sys2Proof.Machine
end

