-- ==== Sys2Proof/Machine/Transaction.lean ====
section
/-! DEFINITION. The steps of the agents (R3, R120): what each request of the environment does. -/

namespace Sys2Proof.Machine

/-- A write of `v` to CMD (R53): store the word, then run the command it encodes; a word that encodes none ends with
E_OPCODE (R180). -/
def State.writeCmd (s : State) (v : Word) : Result :=
  let s1 := ({ s with cmd := v }).answer .written
  match decodeCmd v with
  | .ok i => exec i s1
  | .error _ => s1.fails .eOpcode

/-- A host write (R131, R457). -/
def State.hostWrite (s : State) (bits off : Nat) (v : Word) : Result :=
  if bits ≠ 32 then .next (s.answer .busError)
  else match csrAt s.params off with
    | none => .next (s.answer .busError)
    | some .cmd => s.writeCmd v
    | some r =>
      match s.writeCsr r v with
      | some t => .next (t.answer .written)
      | none => .next (s.answer .busError)

/-- An ISO-interface transaction (R185); kind code 3 is the interface fault IF_KIND (R456). -/
def State.isoTransaction (s : State) (r : IsoRecord) : Result :=
  match decodeIso r with
  | .ok i => exec i s
  | .error .reservedKind => .fault .ifKind
  | .error _ => .refused .noSuchTransaction

/-- One request of the environment, as one atomic step (R120). -/
def State.perform (s : State) : Request → Result
  | .hostRead bits off => .next (s.hostRead bits off)
  | .hostWrite bits off v => s.hostWrite bits off v
  | .iso r => s.isoTransaction r
  | .sync x => .next (s.sync x)
  | .hwReset => .next s.hardwareReset

/-- The state in which a request is performed: it is taken off the environment's list, the free values are renewed
(log 5) and no answer stands yet. -/
def State.begin (s : State) (rest : List Request) : State := { s with input := rest, draw := s.draw + 1, resp := .none }

/-- The request that presents an encoded instruction: a write of the CMD word (R53) or the ISO transaction (R185). -/
def requestOf : Encoded → Request
  | .cmd w => .hostWrite 32 cmdOffset w
  | .iso r => .iso r

end Sys2Proof.Machine
end

