-- ==== Sys2Proof/Machine/Step.lean ====
section
/-! DEFINITION. One step of the machine, and how an instruction is placed where the next step takes it. -/

namespace Sys2Proof.Machine

/-- One step: the next request of the environment's list is performed (R40, R120); with none pending the block holds
its state (R465, log 3). -/
def step (s : State) : Host.Outcome State Fault Refusal :=
  match s.input with
  | [] => .next s
  | q :: rest => (s.begin rest).perform q

/-- `s` with the instruction of a table row as the environment's next request (log 1, log 12). -/
def State.withFetchWord (s : State) (nbits w : Nat) : State :=
  { s with input := requestOf (tableWord nbits w) :: s.input }

end Sys2Proof.Machine
end

