-- ==== Sys2Proof/Safety.lean ====
section
/-! DEFINITION. What counts as a safe run, in the terms the statements use: the invariants of the memories, of the ring
(R125), of the port table (R362, R368, R411) and of the registers' reserved bits, and the ring seen as a queue of packets
(R134). -/

namespace Sys2Proof.Machine

/-! ### Memories and registers -/

/-- TXB, RING and META are in canonical form. -/
def State.memoriesCanonical (s : State) : Prop := s.txb.wf ∧ s.ring.wf ∧ risingKeys s.slotMeta

/-- The reserved bits of SUPPORTED, TX_CIP and TX_ISO are 0 (R55, R56, R57). -/
def State.reservedBitsClear (s : State) : Prop :=
  s.supported &&& supportedReserved = 0 ∧ s.txCip &&& txCipReserved = 0 ∧ s.txIso &&& txIsoReserved = 0

/-! ### The ring -/

/-- The ring configuration is INIT's while the ring is ready, and 0 otherwise (R49, R270, R332, R337). -/
def State.ringConfigured (s : State) : Prop :=
  s.params.legal ∧
  if s.lc.ringReady then
    1 ≤ s.cap.toNat ∧ s.cap.toNat ≤ s.params.capMax ∧ 1 ≤ s.maxPkt.toNat ∧ s.maxPkt.toNat ≤ s.params.maxPktLimit ∧
      s.hdrSize.toNat ≤ s.maxPkt.toNat ∧ s.cap.toNat * s.maxPkt.toNat ≤ s.params.ramBytes
  else s.cap = 0 ∧ s.maxPkt = 0 ∧ s.hdrSize = 0

/-- R125: `r̄@P ≤ r̄ ≤ w̄@C ≤ w̄ ≤ r̄@P + CAP`, said of the indices modulo `2·CAP`: going round from `R@P` over `R` and
`W@C` to `W` covers at most `CAP` places. -/
def State.indicesOrdered (s : State) : Prop :=
  if s.lc.ringReady then
    s.wIdx.toNat < 2 * s.cap.toNat ∧ s.rIdx.toNat < 2 * s.cap.toNat ∧ s.wAtC.toNat < 2 * s.cap.toNat ∧
      s.rAtP.toNat < 2 * s.cap.toNat ∧
      fill s.cap s.rIdx s.rAtP + fill s.cap s.wAtC s.rIdx + fill s.cap s.wIdx s.wAtC ≤ s.cap.toNat
  else s.wIdx = 0 ∧ s.rIdx = 0 ∧ s.wAtC = 0 ∧ s.rAtP = 0

/-- Slot `k` holds a packet that an add has written: a length from `HDRSIZE` to `MAXPKT` and that many bytes (R123). -/
def State.slotHeld (s : State) (k : Nat) : Prop :=
  ∃ e, lookupAt s.slotMeta k = some e ∧ s.hdrSize.toNat ≤ e.len.toNat ∧ e.len.toNat ≤ s.maxPkt.toNat ∧
    ∀ j, j < e.len.toNat → (lookupAt s.ring (k * s.maxPkt.toNat + j)).isSome = true

/-- Every slot from `R@P` up to `W` holds a packet (R124: "a slot is read only after the add that filled it"). -/
def State.slotsHeld (s : State) : Prop :=
  ∀ j, j < fill s.cap s.wIdx s.rAtP → s.slotHeld (slot s.cap (s.rAtP.toNat + j))

/-- The ring's invariant: R125 with the configuration it needs and the packets it counts. -/
def State.ringSafe (s : State) : Prop := s.ringConfigured ∧ s.indicesOrdered ∧ s.slotsHeld

/-- A packet of the ring with its metadata. -/
structure Packet where
  bytes : List Byte
  tag : BitVec 2
  sy : BitVec 4
  cycle : BitVec 13
  ctr : Word
  deriving DecidableEq, Repr

/-- The packet in slot `k`. -/
def State.packetAt (s : State) (k : Nat) : Packet :=
  { bytes := s.ringBytes (k * s.maxPkt.toNat) (s.metaAt k).len.toNat, tag := (s.metaAt k).tag, sy := (s.metaAt k).sy,
    cycle := (s.metaAt k).cycle, ctr := (s.metaAt k).ctr }

/-- The packets in the ring, oldest first: those of the slots from `R` up to `W` (R50). -/
def State.packets (s : State) : List Packet :=
  (List.range (fill s.cap s.wIdx s.rIdx)).map fun j => s.packetAt (slot s.cap (s.rIdx.toNat + j))

/-! ### The port table and the MIDI decoders -/

/-- What R411 makes true of a decoder between steps: running status 0 or a channel status, and the message in progress is
one that still waits for data. -/
def MidiDecoder.sound (md : MidiDecoder) : Prop :=
  (md.rsb = 0 ∨ (0x80 ≤ md.rsb.toNat ∧ md.rsb.toNat < 0xF0)) ∧
  match md.ms with
  | .awaitStatus => md.cur = 0 ∧ md.d1 = 0
  | .awaitData1 => (datalen md.cur = some 1 ∨ datalen md.cur = some 2) ∧ md.d1 = 0
  | .awaitData2 => datalen md.cur = some 2 ∧ md.d1.toNat < 0x80

/-- What ADD_PORT's checks make true of an entry of a stream of direction `d` and dimension `dim` (R362). -/
def entrySound (d : Direction) (dim : Nat) (e : Word) : Prop :=
  entryValid e = true ∧ e &&& (entryMustBeZero ^^^ 1) = 0 ∧ entryType e ≠ .reserved ∧ entryDir e = d ∧
    (entryType e = .midi → entryWide e = true) ∧ entryOffset e + entryWidth e ≤ 4 * dim

/-- A port of the table: unused, or a sound entry whose queues are within their depths, of its own kind, and hold only
values of its format (R68, R177, R178), with a sound decoder. -/
def Port.sound (s : State) (q : Port) : Prop :=
  q = Port.empty ∨
  (entrySound s.dir s.dim.toNat q.entry ∧ q.md.sound ∧
    q.pf.length ≤ s.params.portDepth ∧ q.mq.length ≤ s.params.midiMsgDepth ∧ q.eq.length ≤ s.params.midiTxDepth ∧
    (entryType q.entry = .midi → q.pf = []) ∧
    (isMidiPort .rx q.entry = false → q.mq = [] ∧ q.md = MidiDecoder.idle) ∧
    (isMidiPort .tx q.entry = false → q.eq = []) ∧
    (entryWide q.entry = false → ∀ v ∈ q.pf, v.toNat < 2 ^ 24) ∧ ∀ m ∈ q.mq, midiWordLegal m = true)

/-- The port table's invariant: no port while CLOSED or beyond `P_NPORTS`, sound ports otherwise, and no two playback
slots share a byte (R337, R360, R362). -/
def State.portsSound (s : State) : Prop :=
  (∀ p : Fin 64, s.ports[p].sound s) ∧
  (∀ p : Fin 64, s.lc = .closed ∨ s.params.nPorts ≤ p.val → s.ports[p] = Port.empty) ∧
  (s.dir = .tx → ∀ p q : Fin 64, p ≠ q → entryValid s.ports[p].entry = true → entryValid s.ports[q].entry = true →
    slotsOverlap s.ports[p].entry s.ports[q].entry = false)

/-- The packet SP_DEMUX would parse stands in TXB: CPKT_VALID is set only in a receive stream whose ring is ready, and
every byte of `TXB[0 .. CPKT_LEN)` has been written (R54, R272). -/
def State.fetchedHeld (s : State) : Prop :=
  s.cpktValid = true → s.lc.ringReady = true ∧ s.dir = .rx ∧
    ∀ a, a < s.cpktLen.toNat → (lookupAt s.txb a).isSome = true

/-! ### Frames of the loops -/

/-- `t` is `s` but for the port queues and the counters: all that SP_DEMUX's loop may change. -/
def sameButPorts (s t : State) : Prop := t = { s with ports := t.ports, counters := t.counters }

/-- `t` is `s` but for the port queues, the counters and TXB: all that SP_MUX's loop may change. -/
def sameButSlots (s t : State) : Prop := t = { s with ports := t.ports, counters := t.counters, txb := t.txb }

/-- Of every port of `s` only the sample and message queues and the decoder may differ in `t`: all that SP_DEMUX's loop
may change of a port. -/
structure CapturesOnly (s t : State) : Prop where
  entry : ∀ p : Fin 64, t.ports[p].entry = s.ports[p].entry
  eq : ∀ p : Fin 64, t.ports[p].eq = s.ports[p].eq

/-- Of every port of `s` only the sample and encoder queues may differ in `t`: all that SP_MUX's loop may change of a
port. -/
structure PlaysOnly (s t : State) : Prop where
  entry : ∀ p : Fin 64, t.ports[p].entry = s.ports[p].entry
  mq : ∀ p : Fin 64, t.ports[p].mq = s.ports[p].mq
  md : ∀ p : Fin 64, t.ports[p].md = s.ports[p].md

/-! ### MIDI byte streams -/

/-- Feed bytes to a decoder: the decoder after them, the messages completed in order, and the number of discards. -/
def feedBytes (md : MidiDecoder) : List Byte → MidiDecoder × List Word × Nat
  | [] => (md, [], 0)
  | b :: bs =>
    let r := feedByte md b
    let t := feedBytes r.md bs
    (t.1, r.msg.toList ++ t.2.1, r.discards + t.2.2)

/-- The valid bytes of an AM824 MIDI slot by its label (R174); none for label 0x80 and for an unknown label. -/
def slotMidiBytes (m0 m1 m2 m3 : Byte) : List Byte :=
  if m0 = 0x81 then [m1] else if m0 = 0x82 then [m1, m2] else if m0 = 0x83 then [m1, m2, m3] else []

/-! ### What a multiplexed slot holds -/

/-- The bytes SP_MUX puts into the slot of the valid port `p` in data block `k` (R371): the `k`-th queued sample or MIDI
byte of an enabled port, else the no-data bytes. -/
def State.slotContent (s : State) (p : Fin 64) (k : Nat) : List Byte :=
  let q := s.ports[p]
  if entryType q.entry = .midi then
    match (if s.portEnabled p then q.eq[k]? else none) with
    | some b => [0x81, b, 0, 0]
    | none => [0x80, 0, 0, 0]
  else
    match (if s.portEnabled p then q.pf[k]? else none) with
    | some v => sampleBytes (entryWide q.entry) v
    | none => List.replicate (entryWidth q.entry) 0

/-! ### The CSR map -/

/-- The offset R52 gives a register. -/
def csrOffset : Csr → Nat
  | .id => 0x0000 | .param0 => 0x0004 | .param1 => 0x0008 | .param2 => 0x000C | .param3 => 0x0010 | .param4 => 0x0014
  | .cmd => 0x0020 | .status => 0x0024 | .chan => 0x0028 | .dim => 0x002C
  | .arg i => 0x0030 + 4 * i.val | .res i => 0x0050 + 4 * i.val
  | .supported => 0x0060 | .txCip => 0x0064 | .txIso => 0x0068 | .dbcTx => 0x006C
  | .rbHdrSize => 0x0070 | .rbCap => 0x0074 | .rbMaxPkt => 0x0078 | .rbWIdx => 0x007C | .rbRIdx => 0x0080
  | .cpktLen => 0x0084 | .cpktMeta => 0x0088 | .cpktCtr => 0x008C | .lastCip0 => 0x0090 | .lastCip1 => 0x0094
  | .lastTs => 0x0098 | .sytmonLast => 0x009C | .ctLastSec => 0x00A0 | .ctEpoch => 0x00A4 | .isoDbcNext => 0x00A8
  | .counter .overflow => 0x00C0 | .counter .underflow => 0x00C4 | .counter .isoProto => 0x00C8
  | .counter .llDropped => 0x00CC | .counter .busReset => 0x00D0 | .counter .proto => 0x00D4
  | .counter .portOvf => 0x00D8 | .counter .portUnf => 0x00DC | .counter .midiDiscard => 0x00E0
  | .counter .sytmon => 0x00E4
  | .port p => 0x0100 + 4 * p.val | .portStat p => 0x0200 + 4 * p.val
  | .txb a => 0x1000 + a

/-- The registers of an instance (R52): ports below P_NPORTS, TXB words below P_MAXPKT_LIMIT. -/
def csrExists (p : Params) : Csr → Bool
  | .port q => decide (q.val < p.nPorts)
  | .portStat q => decide (q.val < p.nPorts)
  | .txb a => decide (a < p.maxPktLimit ∧ a % 4 = 0)
  | _ => true

/-- The registers a host may write (R52: access RW). -/
def csrWritable : Csr → Bool
  | .cmd | .arg _ | .supported | .txCip | .txIso | .txb _ => true
  | _ => false

/-- The value R52's reset column gives a register of an instance with parameters `p`; TXB has none (R65). -/
def csrResetValue (p : Params) : Csr → Option Word
  | .id => some 0x1394A824
  | .param0 => some (BitVec.ofNat 32 (p.nPorts + 256 * (wrapModeCode p.wrapMode).toNat))
  | .param1 => some (BitVec.ofNat 32 p.ramBytes)
  | .param2 => some (BitVec.ofNat 32 (p.capMax + 65536 * p.maxPktLimit))
  | .param3 => some (BitVec.ofNat 32 (p.portDepth + 65536 * p.midiMsgDepth))
  | .param4 => some (BitVec.ofNat 32 p.midiTxDepth)
  | .supported | .txIso => some 0x00000001
  | .txb _ => none
  | _ => some 0

/-! ### What the shared operations change, said byte by byte -/

/-- RING and META after R123's add of the bytes `b` with the metadata `e`: the slot of `W` holds them, every other byte
and every other entry is as before. -/
def ringAdded (s : State) (b : List Byte) (e : SlotMeta) (ring : Memory) (table : MetaTable) : Prop :=
  let k := s.wIdx.toNat % s.cap.toNat
  let a0 := k * s.maxPkt.toNat
  (∀ a, lookupAt ring a = if a0 ≤ a ∧ a < a0 + b.length then b[a - a0]? else lookupAt s.ring a) ∧
    ∀ j, lookupAt table j = if j = k then some e else lookupAt s.slotMeta j

/-- The samples port `p` has in the `N` data blocks of the packet in TXB (R366, R368). -/
def State.capturedSamples (s : State) (N : Nat) (p : Fin 64) : List Word :=
  (List.range N).map fun k =>
    let e := s.ports[p].entry
    let a := 8 + 4 * s.dim.toNat * k + entryOffset e
    sampleValue (entryWide e) (s.txbByte a) (s.txbByte (a + 1)) (s.txbByte (a + 2)) (s.txbByte (a + 3))

/-- The MIDI bytes port `p` has in the `N` data blocks of the packet in TXB (R369). -/
def State.capturedMidi (s : State) (N : Nat) (p : Fin 64) : List Byte :=
  (List.range N).flatMap fun k =>
    let a := 8 + 4 * s.dim.toNat * k + entryOffset s.ports[p].entry
    slotMidiBytes (s.txbByte a) (s.txbByte (a + 1)) (s.txbByte (a + 2)) (s.txbByte (a + 3))

/-- How many of port `p`'s MIDI slots in the `N` data blocks have an unknown label (R174, R369). -/
def State.unknownLabels (s : State) (N : Nat) (p : Fin 64) : Nat :=
  (List.range N).countP fun k =>
    let m0 := s.txbByte (8 + 4 * s.dim.toNat * k + entryOffset s.ports[p].entry)
    decide (m0 ≠ 0x80 ∧ m0 ≠ 0x81 ∧ m0 ≠ 0x82 ∧ m0 ≠ 0x83)

/-- Port `p` after SP_DEMUX of `N` data blocks, taken by itself: the items that its queue has room for are appended in
order (R368, R369, R411, R412). -/
def State.capturedPort (s : State) (N : Nat) (p : Fin 64) : Port :=
  let q := s.ports[p]
  if s.portEnabled p then
    match entryType q.entry with
    | .audio | .control => { q with pf := q.pf ++ (s.capturedSamples N p).take (s.params.portDepth - q.pf.length) }
    | .midi =>
      let r := feedBytes q.md (s.capturedMidi N p)
      { q with md := r.1, mq := q.mq ++ r.2.1.take (s.params.midiMsgDepth - q.mq.length) }
    | .reserved => q
  else q

/-- How many items of port `p` SP_DEMUX drops because the port's queue is full (R368, R412). -/
def State.capturedDrops (s : State) (N : Nat) (p : Fin 64) : Nat :=
  let q := s.ports[p]
  if s.portEnabled p then
    match entryType q.entry with
    | .audio | .control => N - (s.params.portDepth - q.pf.length)
    | .midi => (feedBytes q.md (s.capturedMidi N p)).2.1.length - (s.params.midiMsgDepth - q.mq.length)
    | .reserved => 0
  else 0

/-- How many discards SP_DEMUX counts for port `p`: those of its decoder and its slots with an unknown label (R369,
R411). -/
def State.capturedDiscards (s : State) (N : Nat) (p : Fin 64) : Nat :=
  if s.portEnabled p ∧ entryType s.ports[p].entry = .midi then
    (feedBytes s.ports[p].md (s.capturedMidi N p)).2.2 + s.unknownLabels N p
  else 0

/-- How many times SP_MUX of `N` data blocks finds port `p`'s FIFO empty (R371). -/
def State.missedSamples (s : State) (N : Nat) (p : Fin 64) : Nat :=
  if s.portEnabled p ∧ (entryType s.ports[p].entry = .audio ∨ entryType s.ports[p].entry = .control) then
    N - s.ports[p].pf.length
  else 0

/-! ### Requests -/

/-- The next step writes a CMD word that decodes to `i`. -/
def State.runsCommand (s : State) (i : Instr) : Prop :=
  ∃ w rest, s.input = .hostWrite 32 cmdOffset w :: rest ∧ decodeCmd w = .ok i

/-- The next step is the hardware reset. -/
def State.resetsNext (s : State) : Prop := ∃ rest, s.input = .hwReset :: rest

/-- The next step writes `v` to the register `r`. -/
def State.writesNext (s : State) (r : Csr) (v : Word) : Prop :=
  ∃ off rest, s.input = .hostWrite 32 off v :: rest ∧ csrAt s.params off = some r

/-- The errors R452 lets a command end with; an ISO transaction ends with none (R454). -/
def commandErrors : Instr → List ErrCode
  | .nop | .ctTicksToCycles | .ctFromTicks => []
  | .openStream | .resume => [.eState, .eArg]
  | .init => [.eState, .eArg, .eResource]
  | .start | .stop | .close | .rbFillPackets | .rbFillPayload => [.eState]
  | .setConfig => [.eArg, .eConfig]
  | .addPort | .removePort | .midiDecode => [.eState, .eArg, .ePort]
  | .portRead | .midiRead => [.eState, .eArg, .ePort, .eUnderflow]
  | .portWrite => [.eState, .eArg, .ePort, .eOverflow]
  | .spDemux => [.eState, .eProtoShort, .eProtoDim, .eProtoLen]
  | .spMux => [.eState, .eArg, .eTooLong]
  | .rbAdd => [.eState, .eArg, .eTooLong, .eOverflow]
  | .rbGet => [.eState, .eArg, .eUnderflow, .eTooLong]
  | .midiEncode => [.eState, .eArg, .ePort, .eMidi, .eOverflow]
  | .ctCyclesToTicks | .ctReconstruct | .ctToTicks | .ctSytCheck => [.eArg]
  | .isoPut .. | .isoGet .. | .isoBusReset => []

end Sys2Proof.Machine
end

