-- ==== Sys2Proof/Certificates/Slice0/Obligations.lean ====
section
/-! DEFINITION. The statements for the provers, one `def Obligations.<Name> : Prop` each. A statement of an instruction is
an if and else chain in the order of the instruction's checks; each branch says the whole next state, so it is the
instruction's result, its errors, its frame and its completion at once. Memory is read through `lookupAt`: `some b` is a
byte that something has written, `none` one that nothing has. The requests, the draw number and the answer (`input`,
`draw`, `resp`) are the model's own fields (logs 1, 2, 5, DESIGN CHOICE): where a statement about `step` says what becomes
of them, that clause is the model's. -/

open Sys2Proof Sys2Proof.Machine

/-! ### Encoding -/

/-- R180, R184, R185: decoding and encoding agree on every well-formed instruction, what decodes is well formed, and each
CMD word has one meaning. -/
def Obligations.DecodeAndEncodeAgree : Prop :=
  (∀ i : Instr, i.wellFormed = true → decode (encode i) = .ok i) ∧
  (∀ (e : Encoded) (i : Instr), decode e = .ok i → i.wellFormed = true) ∧
  ∀ (w : Word) (i : Instr), decode (.cmd w) = .ok i → encode i = .cmd w

/-- R180, R184: a CMD word executes a command exactly if its reserved bits are 0 and its opcode is in the opcode map; a
write of any other word is stored in CMD and ends with E_OPCODE, and nothing else changes but the model's own fields. What becomes of
those, `input`, `draw` and `resp`, is the model's choice (logs 1, 2, 5, DESIGN CHOICE). -/
def Obligations.OnlyMappedOpcodesExecute : Prop :=
  ∀ w : Word,
    ((∃ i, decodeCmd w = .ok i) ↔
      w.toNat ≤ 0x06 ∨ (0x08 ≤ w.toNat ∧ w.toNat ≤ 0x0A) ∨ (0x10 ≤ w.toNat ∧ w.toNat ≤ 0x13) ∨
        (0x18 ≤ w.toNat ∧ w.toNat ≤ 0x1B) ∨ (0x20 ≤ w.toNat ∧ w.toNat ≤ 0x22) ∨
        (0x28 ≤ w.toNat ∧ w.toNat ≤ 0x2D)) ∧
    ((∀ i, decodeCmd w ≠ .ok i) → ∀ (s : State) (rest : List Request),
      s.input = .hostWrite 32 cmdOffset w :: rest →
        step s = .next { s with input := rest, draw := s.draw + 1, cmd := w, err := .eOpcode, resp := .written })

/-- R180, R185: words written out from the encoding tables decode to the instructions they stand for. -/
def Obligations.SampleWordsDecode : Prop :=
  decode (.cmd 0x00000001) = .ok .openStream ∧ decode (.cmd 0x00000008) = .ok .setConfig ∧
  decode (.cmd 0x00000010) = .ok .rbAdd ∧ decode (.cmd 0x00000018) = .ok .spDemux ∧
  decode (.cmd 0x00000022) = .ok .midiEncode ∧ decode (.cmd 0x0000002D) = .ok .ctSytCheck ∧
  decode (.cmd 0x00000007) = .error .reservedOpcode ∧ decode (.cmd 0x00000110) = .error .cmdReservedBits ∧
  decode (.iso { IsoRecord.blank 0 with data := [1, 2, 3], channel := 5 }) = .ok (.isoPut [1, 2, 3] 5 0 0 0 0 0) ∧
  decode (.iso { IsoRecord.blank 1 with maxLength := 512 }) = .ok (.isoGet 0 0 512) ∧
  decode (.iso (IsoRecord.blank 2)) = .ok .isoBusReset ∧ decode (.iso (IsoRecord.blank 3)) = .error .reservedKind

/-- R40, R53, R120: the step takes the environment's next request. A write of a CMD word that decodes to `i` is `exec i`
on the state in which the word stands in CMD and the access is answered; an ISO transaction that decodes to `i` is
`exec i`. Around `exec` the step moves only the model's own fields. Three clauses are the model's choice: that the requests
stand in a list whose first is performed (log 1, DESIGN CHOICE), that the answer stands in the state (log 2, DESIGN
CHOICE; the draw number is log 5's), and that with no request pending a step is the identity (log 3, DESIGN CHOICE; R465 says only that the block holds
its state). -/
def Obligations.StepRunsTheDecodedInstruction : Prop :=
  (∀ (s : State) (w : Word) (i : Instr) (rest : List Request), s.input = .hostWrite 32 cmdOffset w :: rest →
    decode (.cmd w) = .ok i →
      step s = exec i { s with input := rest, draw := s.draw + 1, cmd := w, resp := .written }) ∧
  (∀ (s : State) (r : IsoRecord) (i : Instr) (rest : List Request), s.input = .iso r :: rest →
    decode (.iso r) = .ok i → step s = exec i { s with input := rest, draw := s.draw + 1, resp := .none }) ∧
  ∀ s : State, s.input = [] → step s = .next s

/-! ### Lifecycle commands -/

/-- R330: NOP changes nothing but `STATUS.ERR`. -/
def Obligations.NopOnlyClearsTheError : Prop :=
  decodeCmd 0x00000000 = .ok .nop ∧ ∀ s : State, exec .nop s = .next { s with err := .ok }

/-- R331. That all 64 entries of the model's table are cleared, where R331 clears those below P_NPORTS, is the model's
choice: its table has 64 entries of which the ports below P_NPORTS exist (log 13, DESIGN CHOICE). -/
def Obligations.OpenStartsAStream : Prop :=
  decodeCmd 0x00000001 = .ok .openStream ∧ ∀ s : State,
    if s.lc ≠ .closed then exec .openStream s = .next { s with err := .eState }
    else if 64 ≤ s.arg[0].toNat ∨ 2 ≤ s.arg[1].toNat ∨ 256 ≤ s.arg[2].toNat ∨ s.arg[2].toNat = 0 then
      exec .openStream s = .next { s with err := .eArg }
    else
      exec .openStream s = .next
        { s with
          chan := BitVec.ofNat 6 s.arg[0].toNat, dir := if s.arg[1].toNat = 0 then .rx else .tx,
          dim := BitVec.ofNat 8 s.arg[2].toNat, counters := Counters.zero, shadows := Shadows.zero,
          wIdx := 0, rIdx := 0, wAtC := 0, rAtP := 0, ports := Vector.replicate 64 Port.empty,
          dbcTx := 0, isoDbcNext := 0, cpktLen := 0, cpktMeta := 0, cpktCtr := 0, lastCip0 := 0, lastCip1 := 0,
          lastTs := 0, sytmonLast := 0, cpktValid := false, tsValid := false, sytmonHave := false, brp := false,
          lc := .opened, err := .ok }

/-- R332 with R337's teardown. Two clauses are the model's: the next state of a successful INIT keeps RING and META as
they were, where item 1.2 of 93_implementation_defined.md lets their contents after INIT be any value (log 14, DEDUCED);
and the teardown clears all 64 entries of the model's table, where R337 clears those below P_NPORTS (log 13, DESIGN
CHOICE). -/
def Obligations.InitAllocatesTheRing : Prop :=
  decodeCmd 0x00000002 = .ok .init ∧ ∀ s : State,
    if s.lc ≠ .opened then exec .init s = .next { s with err := .eState }
    else if 2 ^ 13 ≤ s.arg[0].toNat ∨ 2 ^ 14 ≤ s.arg[1].toNat ∨ 2 ^ 13 ≤ s.arg[2].toNat ∨ s.arg[1].toNat = 0 ∨
        s.params.capMax < s.arg[1].toNat ∨ s.arg[2].toNat = 0 ∨ s.params.maxPktLimit < s.arg[2].toNat ∨
        s.arg[2].toNat < s.arg[0].toNat then
      exec .init s = .next { s with err := .eArg }
    else if s.params.ramBytes < s.arg[1].toNat * s.arg[2].toNat then
      exec .init s = .next
        { s with
          ports := Vector.replicate 64 Port.empty, hdrSize := 0, cap := 0, maxPkt := 0, wIdx := 0, rIdx := 0,
          wAtC := 0, rAtP := 0, cpktValid := false, brp := false, lc := .closed, err := .eResource }
    else
      exec .init s = .next
        { s with
          hdrSize := BitVec.ofNat 13 s.arg[0].toNat, cap := BitVec.ofNat 14 s.arg[1].toNat,
          maxPkt := BitVec.ofNat 13 s.arg[2].toNat, wIdx := 0, rIdx := 0, wAtC := 0, rAtP := 0, lc := .ready,
          err := .ok }

/-- R333, R334: START, and STOP, after which no ISO_PUT and no ISO_GET is enabled (R315). -/
def Obligations.StartAndStopTheStream : Prop :=
  decodeCmd 0x00000003 = .ok .start ∧ decodeCmd 0x00000004 = .ok .stop ∧ ∀ s : State,
    (if s.lc = .ready ∨ s.lc = .stopped then exec .start s = .next { s with lc := .running, err := .ok }
      else exec .start s = .next { s with err := .eState }) ∧
    if s.lc = .running then
      exec .stop s = .next { s with lc := .stopped, err := .ok } ∧
        ∀ t, exec .stop s = .next t → t.putEnabled = false ∧ t.getEnabled = false
    else exec .stop s = .next { s with err := .eState }

/-- R335 with R337's teardown. That the teardown clears all 64 entries of the model's table, where R337 clears those
below P_NPORTS, is the model's choice (log 13, DESIGN CHOICE). -/
def Obligations.CloseTearsDown : Prop :=
  decodeCmd 0x00000005 = .ok .close ∧ ∀ s : State,
    if s.lc = .opened ∨ s.lc = .ready ∨ s.lc = .stopped then
      exec .close s = .next
        { s with
          ports := Vector.replicate 64 Port.empty, hdrSize := 0, cap := 0, maxPkt := 0, wIdx := 0, rIdx := 0,
          wAtC := 0, rAtP := 0, cpktValid := false, brp := false, lc := .closed, err := .ok }
    else exec .close s = .next { s with err := .eState }

/-! ### Configuration, port table and port queues -/

/-- R361: the tier is the one whose code is ARG0, the optical mode the one whose code is ARG1. -/
def Obligations.SetConfigChoosesASupportedConfiguration : Prop :=
  decodeCmd 0x00000008 = .ok .setConfig ∧ ∀ s : State,
    if 3 ≤ s.arg[0].toNat ∨ 3 ≤ s.arg[1].toNat then exec .setConfig s = .next { s with err := .eArg }
    else if s.supported.getLsbD (3 * s.arg[1].toNat + s.arg[0].toNat) = false then
      exec .setConfig s = .next { s with err := .eConfig }
    else
      exec .setConfig s = .next
        { s with
          tier := if s.arg[0].toNat = 0 then .x1 else if s.arg[0].toNat = 1 then .x2 else .x4,
          opt := if s.arg[1].toNat = 0 then .none else if s.arg[1].toNat = 1 then .adat else .toslink, err := .ok }

/-- R362, with the fields of the entry read by R176. -/
def Obligations.AddPortChecksAndStores : Prop :=
  decodeCmd 0x00000009 = .ok .addPort ∧ ∀ s : State,
    let p : Fin 64 := Fin.ofNat 64 s.arg[0].toNat
    let e := s.arg[1]
    let width : Word → Nat := fun f => 3 + (f.extractLsb' 4 1).toNat
    let offset : Word → Nat := fun f => (f.extractLsb' 8 10).toNat
    if s.lc = .closed then exec .addPort s = .next { s with err := .eState }
    else if 64 ≤ s.arg[0].toNat ∨ s.params.nPorts ≤ s.arg[0].toNat then
      exec .addPort s = .next { s with err := .eArg }
    else if e.getLsbD 0 = true ∨ e.getLsbD 5 = true ∨ e.extractLsb' 6 2 ≠ 0 ∨ e.extractLsb' 27 5 ≠ 0 ∨
        e.extractLsb' 2 2 = 3 then
      exec .addPort s = .next { s with err := .eArg }
    else if (e.getLsbD 1 = true ∧ s.dir = .rx) ∨ (e.getLsbD 1 = false ∧ s.dir = .tx) then
      exec .addPort s = .next { s with err := .ePort }
    else if e.extractLsb' 2 2 = 1 ∧ e.getLsbD 4 = false then exec .addPort s = .next { s with err := .ePort }
    else if 4 * s.dim.toNat < offset e + width e then exec .addPort s = .next { s with err := .ePort }
    else if s.dir = .tx ∧ ∃ q : Fin 64, q.val < s.params.nPorts ∧ q ≠ p ∧ s.ports[q].entry.getLsbD 0 = true ∧
        offset e < offset s.ports[q].entry + width s.ports[q].entry ∧
        offset s.ports[q].entry < offset e + width e then
      exec .addPort s = .next { s with err := .ePort }
    else
      exec .addPort s = .next
        { s with
          ports := s.ports.set p.val
            { entry := e ||| 1, pf := [], mq := [], eq := [], md := { ms := .awaitStatus, rsb := 0, cur := 0, d1 := 0 } }
            p.isLt,
          err := .ok }

/-- R363. -/
def Obligations.RemovePortEmptiesTheEntry : Prop :=
  decodeCmd 0x0000000A = .ok .removePort ∧ ∀ s : State,
    let p : Fin 64 := Fin.ofNat 64 s.arg[0].toNat
    if s.lc = .closed then exec .removePort s = .next { s with err := .eState }
    else if 64 ≤ s.arg[0].toNat ∨ s.params.nPorts ≤ s.arg[0].toNat then
      exec .removePort s = .next { s with err := .eArg }
    else if s.ports[p].entry.getLsbD 0 = false then exec .removePort s = .next { s with err := .ePort }
    else exec .removePort s = .next { s with ports := s.ports.set p.val Port.empty p.isLt, err := .ok }

/-- R364: a valid audio or control capture port gives the oldest sample of its FIFO. -/
def Obligations.PortReadTakesTheOldestSample : Prop :=
  decodeCmd 0x0000001A = .ok .portRead ∧ ∀ s : State,
    let p : Fin 64 := Fin.ofNat 64 s.arg[0].toNat
    let e := s.ports[p].entry
    if s.lc = .closed then exec .portRead s = .next { s with err := .eState }
    else if 64 ≤ s.arg[0].toNat ∨ s.params.nPorts ≤ s.arg[0].toNat then
      exec .portRead s = .next { s with err := .eArg }
    else if e.getLsbD 0 = false ∨ e.extractLsb' 2 2 = 1 ∨ e.getLsbD 1 = true then
      exec .portRead s = .next { s with err := .ePort }
    else if s.ports[p].pf = [] then exec .portRead s = .next { s with err := .eUnderflow }
    else
      ∀ v rest, s.ports[p].pf = v :: rest →
        exec .portRead s = .next
          { s with
            ports := s.ports.set p.val { s.ports[p] with pf := rest } p.isLt,
            res := #v[v, s.res[1], s.res[2], s.res[3]], err := .ok }

/-- R365: a valid audio or control playback port with room takes the sample, if its width allows it. That a FIFO longer
than P_PORT_DEPTH, which no run reaches, has no room either is the model's reading (log 24, DEDUCED). -/
def Obligations.PortWriteQueuesTheSample : Prop :=
  decodeCmd 0x0000001B = .ok .portWrite ∧ ∀ s : State,
    let p : Fin 64 := Fin.ofNat 64 s.arg[0].toNat
    let e := s.ports[p].entry
    if s.lc = .closed then exec .portWrite s = .next { s with err := .eState }
    else if 64 ≤ s.arg[0].toNat ∨ s.params.nPorts ≤ s.arg[0].toNat then
      exec .portWrite s = .next { s with err := .eArg }
    else if e.getLsbD 0 = false ∨ e.extractLsb' 2 2 = 1 ∨ e.getLsbD 1 = false then
      exec .portWrite s = .next { s with err := .ePort }
    else if e.getLsbD 4 = false ∧ 2 ^ 24 ≤ s.arg[1].toNat then exec .portWrite s = .next { s with err := .eArg }
    else if s.params.portDepth ≤ s.ports[p].pf.length then
      exec .portWrite s = .next { s with err := .eOverflow }
    else
      exec .portWrite s = .next
        { s with
          ports := s.ports.set p.val { s.ports[p] with pf := s.ports[p].pf ++ [s.arg[1]] } p.isLt, err := .ok }

/-! ### Packet ring commands -/

/-- R271 with R123's add: the packet `TXB[0 .. len)` goes into the slot of `W`, with its metadata 0, and `W` moves on. -/
def Obligations.RbAddStoresThePacket : Prop :=
  decodeCmd 0x00000010 = .ok .rbAdd ∧ ∀ s : State,
    let len := s.arg[0].toNat
    if (s.lc = .closed ∨ s.lc = .opened) ∨ s.dir ≠ .tx then exec .rbAdd s = .next { s with err := .eState }
    else if 2 ^ 13 ≤ len ∨ len < s.hdrSize.toNat then exec .rbAdd s = .next { s with err := .eArg }
    else if s.maxPkt.toNat < len then exec .rbAdd s = .next { s with err := .eTooLong }
    else if fill s.cap s.wIdx s.rAtP = s.cap.toNat then
      exec .rbAdd s = .next
        { s with counters := { s.counters with overflow := s.counters.overflow + 1 }, err := .eOverflow }
    else
      ∃ (ring : Memory) (table : MetaTable),
        ringAdded s ((List.range len).map s.txbByte)
          { len := BitVec.ofNat 13 len, tag := 0, sy := 0, cycle := 0, ctr := 0 } ring table ∧
        exec .rbAdd s = .next
          { s with
            ring := ring, slotMeta := table,
            wIdx := BitVec.ofNat 14 ((s.wIdx.toNat + 1) % (2 * s.cap.toNat)), err := .ok }

/-- R272 with R124's get: the packet in the slot of `R` goes to TXB, and `R` moves on. Every TXB byte at the packet's
length and above is as before. -/
def Obligations.RbGetTakesTheOldestPacket : Prop :=
  decodeCmd 0x00000011 = .ok .rbGet ∧ ∀ s : State,
    let k := s.rIdx.toNat % s.cap.toNat
    let e := s.metaAt k
    if (s.lc = .closed ∨ s.lc = .opened) ∨ s.dir ≠ .rx then exec .rbGet s = .next { s with err := .eState }
    else if 2 ^ 16 ≤ s.arg[0].toNat then exec .rbGet s = .next { s with err := .eArg }
    else if fill s.cap s.wAtC s.rIdx = 0 then
      exec .rbGet s = .next
        { s with counters := { s.counters with underflow := s.counters.underflow + 1 }, err := .eUnderflow }
    else if s.arg[0].toNat < e.len.toNat then exec .rbGet s = .next { s with err := .eTooLong }
    else
      ∃ (txb : Memory) (word : Word),
        (∀ a, lookupAt txb a =
          if a < e.len.toNat then some (s.ringByte (k * s.maxPkt.toNat + a)) else lookupAt s.txb a) ∧
        word.toNat = e.tag.toNat + 2 ^ 4 * e.sy.toNat + 2 ^ 16 * e.cycle.toNat ∧
        exec .rbGet s = .next
          { s with
            txb := txb, rIdx := BitVec.ofNat 14 ((s.rIdx.toNat + 1) % (2 * s.cap.toNat)),
            cpktLen := e.len, cpktMeta := word, cpktCtr := e.ctr, cpktValid := true,
            res := #v[BitVec.ofNat 32 e.len.toNat, word, e.ctr, s.res[3]], err := .ok }

/-- R273, R274: the two fill queries give the packets, and their payload bytes, in the APP side's view. In a state that
keeps the ring's invariant the fill is at most CAP, every packet counted has `LEN ≥ HDRSIZE`, so that no term of the sum is
negative, and the sum is at most `CAP·MAXPKT ≤ P_RAM_BYTES`. The sum is that of R274's pseudocode: R274's own example and
95_test_vectors.md 2.3 give 48 for three packets whose sum is 40, and that the pseudocode holds is the model's choice
(log 25, DEDUCED). -/
def Obligations.FillQueriesShowTheView : Prop :=
  decodeCmd 0x00000012 = .ok .rbFillPackets ∧ decodeCmd 0x00000013 = .ok .rbFillPayload ∧ ∀ s : State,
    let r := if s.dir = .rx then s.rIdx.toNat else s.rAtP.toNat
    let n := if s.dir = .rx then fill s.cap s.wAtC s.rIdx else fill s.cap s.wIdx s.rAtP
    let len : Nat → Nat := fun j => (s.metaAt ((r + j) % s.cap.toNat)).len.toNat
    if s.lc = .closed ∨ s.lc = .opened then
      exec .rbFillPackets s = .next { s with err := .eState } ∧ exec .rbFillPayload s = .next { s with err := .eState }
    else
      exec .rbFillPackets s = .next
        { s with res := #v[BitVec.ofNat 32 n, s.res[1], s.res[2], s.res[3]], err := .ok } ∧
      exec .rbFillPayload s = .next
        { s with
          res := #v[BitVec.ofInt 32 ((List.range n).map fun j => (len j : Int) - s.hdrSize.toNat).sum,
            s.res[1], s.res[2], s.res[3]],
          err := .ok } ∧
      (s.ringSafe →
        n ≤ s.cap.toNat ∧ (∀ j, j < n → s.hdrSize.toNat ≤ len j) ∧
        ((List.range n).map fun j => len j - s.hdrSize.toNat).sum ≤ s.cap.toNat * s.maxPkt.toNat ∧
        s.cap.toNat * s.maxPkt.toNat ≤ s.params.ramBytes ∧
        ∀ t, exec .rbFillPayload s = .next t →
          t.res[0].toNat = ((List.range n).map fun j => len j - s.hdrSize.toNat).sum)

/-! ### The demultiplexer and the multiplexer -/

/-- R366, R367: when SP_DEMUX refuses, with which error, and what it has then changed. -/
def Obligations.SpDemuxRefusesMalformedPackets : Prop :=
  decodeCmd 0x00000018 = .ok .spDemux ∧ ∀ s : State,
    let q0 := s.txbQuad 0
    let q1 := s.txbQuad 4
    let counters := { s.counters with proto := s.counters.proto + 1 }
    if (s.lc = .closed ∨ s.lc = .opened) ∨ s.dir ≠ .rx ∨ s.cpktValid = false then
      exec .spDemux s = .next { s with err := .eState }
    else if s.cpktLen.toNat < 8 then
      exec .spDemux s = .next { s with counters := counters, cpktValid := false, err := .eProtoShort }
    else if q0.toNat / 2 ^ 16 % 2 ^ 8 ≠ s.dim.toNat then
      exec .spDemux s = .next
        { s with lastCip0 := q0, lastCip1 := q1, counters := counters, cpktValid := false, err := .eProtoDim }
    else if (s.cpktLen.toNat - 8) % (4 * s.dim.toNat) ≠ 0 then
      exec .spDemux s = .next
        { s with lastCip0 := q0, lastCip1 := q1, counters := counters, cpktValid := false, err := .eProtoLen }
    else ∃ t, exec .spDemux s = .next t ∧ t.err = .ok

/-- R366, R367, R241: when SP_DEMUX succeeds, its results, the timestamp it makes and gives to the SYT monitor, and its
frame: beside those registers only the counters CNT_SYTMON, CNT_PORT_OVF and CNT_MIDI_DISCARD and, of the ports, sample
and message queues and decoders change; every port-table entry (R63) and every encoder queue is as before. What the
queues and decoders become is DemuxServesEveryPort. -/
def Obligations.SpDemuxMakesTheTimestamp : Prop :=
  ∀ s : State,
    let q0 := s.txbQuad 0
    let q1 := s.txbQuad 4
    let y := q1.extractLsb' 0 16
    let N := (s.cpktLen.toNat - 8) / (4 * s.dim.toNat)
    let made : Bool := ctrValid s.cpktCtr && decide (y.toNat % 2 ^ 12 < 3072)
    let ts := (recon s.params.wrapMode y s.cpktCtr (s.cpktCtr.extractLsb' 25 7)).1
    let suspect : Bool := decide (ts.extractLsb' 0 16 ≠ y) || s.sytBackward ts
    (s.lc = .ready ∨ s.lc = .running ∨ s.lc = .stopped) → s.dir = .rx → s.cpktValid = true → 8 ≤ s.cpktLen.toNat →
    q0.extractLsb' 16 8 = s.dim → (s.cpktLen.toNat - 8) % (4 * s.dim.toNat) = 0 →
      ∃ (ports : Vector Port 64) (overflows discards : Word),
        (∀ p : Fin 64, ports[p].entry = s.ports[p].entry ∧ ports[p].eq = s.ports[p].eq) ∧
        exec .spDemux s = .next
          { s with
            lastCip0 := q0, lastCip1 := q1, cpktValid := false,
            lastTs := if made then ts else s.lastTs, tsValid := made || s.tsValid,
            sytmonLast := if made then ts else s.sytmonLast, sytmonHave := made || s.sytmonHave,
            ports := ports,
            counters :=
              { s.counters with
                sytmon := s.counters.sytmon + (if made && suspect then 1 else 0)
                portOvf := overflows, midiDiscard := discards },
            res := #v[BitVec.ofNat 32 N, if made then 1 else 0, if made then ts else 0, s.res[3]], err := .ok }

/-- R366, R368, R369: a demultiplexed packet reaches each port as if the port stood alone. An enabled audio or control
port has the samples of all data blocks appended in block order, as far as its FIFO has room; an enabled MIDI port's
decoder has taken the valid bytes of all its slots in order and the completed messages are queued as far as there is room;
every other port is unchanged. CNT_PORT_OVF and CNT_MIDI_DISCARD count exactly what was dropped. -/
def Obligations.DemuxServesEveryPort : Prop :=
  ∀ s t : State,
    let N := (s.cpktLen.toNat - 8) / (4 * s.dim.toNat)
    exec .spDemux s = .next t → t.err = .ok →
      (∀ p : Fin 64, t.ports[p] = s.capturedPort N p) ∧
      t.counters.portOvf =
        s.counters.portOvf + BitVec.ofNat 32 ((List.finRange 64).map fun p => s.capturedDrops N p).sum ∧
      t.counters.midiDiscard =
        s.counters.midiDiscard + BitVec.ofNat 32 ((List.finRange 64).map fun p => s.capturedDiscards N p).sum

/-- R370: SP_MUX's errors, its result, its header (with the fields of TX_CIP, R56) and its frame: beside TXB, DBC_TX,
RES0 and CNT_PORT_UNF only sample and encoder queues of the ports change; every port-table entry (R63), every message
queue and every decoder is as before. What TXB holds from byte 8 on, and what the queues become, is MuxFillsEverySlot. -/
def Obligations.SpMuxBuildsAPacket : Prop :=
  decodeCmd 0x00000019 = .ok .spMux ∧ ∀ s : State,
    let N := s.arg[0].toNat
    let y := s.arg[1].toNat
    let L := 8 + N * (4 * s.dim.toNat)
    if (s.lc = .closed ∨ s.lc = .opened) ∨ s.dir ≠ .tx then exec .spMux s = .next { s with err := .eState }
    else if 2 ^ 16 ≤ N ∨ 2 ^ 16 ≤ y then exec .spMux s = .next { s with err := .eArg }
    else if s.maxPkt.toNat < L then exec .spMux s = .next { s with err := .eTooLong }
    else
      ∃ (txb : Memory) (ports : Vector Port 64) (underflows : Word),
        (∀ p : Fin 64, ports[p].entry = s.ports[p].entry ∧ ports[p].mq = s.ports[p].mq ∧ ports[p].md = s.ports[p].md) ∧
        exec .spMux s = .next
          { s with
            txb := txb, ports := ports, counters := { s.counters with portUnf := underflows },
            dbcTx := BitVec.ofNat 8 (s.dbcTx.toNat + N), res := #v[BitVec.ofNat 32 L, s.res[1], s.res[2], s.res[3]],
            err := .ok } ∧
        (List.range 8).map (lookupAt txb) =
          [ some (BitVec.ofNat 8 (s.txCip.toNat % 2 ^ 6)), some s.dim, some 0, some s.dbcTx,
            some (BitVec.ofNat 8 (2 ^ 7 + s.txCip.toNat / 2 ^ 8 % 2 ^ 6)), some (BitVec.ofNat 8 (s.txCip.toNat / 2 ^ 16)),
            some (BitVec.ofNat 8 (y / 2 ^ 8)), some (BitVec.ofNat 8 y) ]

/-- R370, R371, R416: what SP_MUX puts into TXB from byte 8 on, and what it takes from the queues, in a state that keeps
the port table's invariant: the slot of every valid port in every data block holds that port's next queued sample or MIDI
byte or its no-data bytes; bytes of a data block that no port covers are 0; bytes at the packet's length and above are as
before. Every enabled port's queue has lost its first `N` items, and CNT_PORT_UNF counts the missing samples. -/
def Obligations.MuxFillsEverySlot : Prop :=
  ∀ s t : State,
    let N := s.arg[0].toNat
    let B := 4 * s.dim.toNat
    s.portsSound → exec .spMux s = .next t → t.err = .ok →
      (∀ (p : Fin 64) (k j : Nat), entryValid s.ports[p].entry = true → k < N → j < entryWidth s.ports[p].entry →
        lookupAt t.txb (8 + B * k + entryOffset s.ports[p].entry + j) = (s.slotContent p k)[j]?) ∧
      (∀ k b, k < N → b < B →
        (∀ p : Fin 64, entryValid s.ports[p].entry = true →
          b < entryOffset s.ports[p].entry ∨ entryOffset s.ports[p].entry + entryWidth s.ports[p].entry ≤ b) →
        lookupAt t.txb (8 + B * k + b) = some 0) ∧
      (∀ a, 8 + B * N ≤ a → lookupAt t.txb a = lookupAt s.txb a) ∧
      (∀ p : Fin 64, t.ports[p] =
        if s.portEnabled p then
          if entryType s.ports[p].entry = .midi then { s.ports[p] with eq := s.ports[p].eq.drop N }
          else { s.ports[p] with pf := s.ports[p].pf.drop N }
        else s.ports[p]) ∧
      t.counters.portUnf =
        s.counters.portUnf + BitVec.ofNat 32 ((List.finRange 64).map fun p => s.missedSamples N p).sum

/-- R372: the demultiplexer and the multiplexer invert each other. A transmit stream with the receive stream's dimension,
configuration and ports (but for DIR) that is given every captured sample, with queues that were empty and did not
overflow, rebuilds with the same `N` every byte of the packet in the slots of the enabled audio and control ports, and the
no-data label of every MIDI slot that had it while its encoder queue is empty. -/
def Obligations.MuxRebuildsTheDemultiplexedPacket : Prop :=
  ∀ s t u v : State,
    let N := (s.cpktLen.toNat - 8) / (4 * s.dim.toNat)
    s.portsSound → u.portsSound → u.params = s.params → u.dim = s.dim → u.tier = s.tier → u.opt = s.opt →
    (∀ p : Fin 64, u.ports[p].entry =
      if entryValid s.ports[p].entry then s.ports[p].entry ||| 2 else s.ports[p].entry) →
    (∀ p : Fin 64, s.ports[p].pf = []) → N ≤ s.params.portDepth →
    exec .spDemux s = .next t → t.err = .ok →
    (∀ p : Fin 64, entryType s.ports[p].entry ≠ .midi → u.ports[p].pf = t.ports[p].pf) → u.arg[0].toNat = N →
    exec .spMux u = .next v → v.err = .ok →
      ∀ (p : Fin 64) (k : Nat), s.portEnabled p = true → k < N →
        let a := 8 + 4 * s.dim.toNat * k + entryOffset s.ports[p].entry
        (entryType s.ports[p].entry ≠ .midi →
          ∀ j, j < entryWidth s.ports[p].entry → lookupAt v.txb (a + j) = some (s.txbByte (a + j))) ∧
        (entryType s.ports[p].entry = .midi → u.ports[p].eq = [] → s.txbByte a = 0x80 →
          lookupAt v.txb a = some 0x80)

/-! ### MIDI -/

/-- R413 with R412's queue: one byte into the decoder of a MIDI capture port. What the byte does to the decoder is
MidiDecoderFollowsTheTable. -/
def Obligations.MidiDecodeFeedsOneByte : Prop :=
  decodeCmd 0x00000020 = .ok .midiDecode ∧ ∀ s : State,
    let p : Fin 64 := Fin.ofNat 64 s.arg[0].toNat
    let e := s.ports[p].entry
    let r := feedByte s.ports[p].md (BitVec.ofNat 8 s.arg[1].toNat)
    let room : Bool := decide (s.ports[p].mq.length < s.params.midiMsgDepth)
    if s.lc = .closed then exec .midiDecode s = .next { s with err := .eState }
    else if 64 ≤ s.arg[0].toNat ∨ s.params.nPorts ≤ s.arg[0].toNat ∨ 256 ≤ s.arg[1].toNat then
      exec .midiDecode s = .next { s with err := .eArg }
    else if e.getLsbD 0 = false ∨ e.extractLsb' 2 2 ≠ 1 ∨ e.getLsbD 1 = true then
      exec .midiDecode s = .next { s with err := .ePort }
    else
      exec .midiDecode s = .next
        { s with
          ports := s.ports.set p.val
            { s.ports[p] with md := r.md, mq := s.ports[p].mq ++ if room then r.msg.toList else [] } p.isLt,
          counters :=
            { s.counters with
              midiDiscard := s.counters.midiDiscard + BitVec.ofNat 32 r.discards
              portOvf := s.counters.portOvf + (if r.msg.isSome && !room then 1 else 0) },
          res := #v[if r.msg.isSome then 1 else 0, r.msg.getD 0, s.res[2], s.res[3]], err := .ok }

/-- R410, R411: the decoder's state, the message it completes and its discards after one byte, with the byte classes of
R410's table written as ranges. -/
def Obligations.MidiDecoderFollowsTheTable : Prop :=
  ∀ (md : MidiDecoder) (b : Byte),
    let word : Nat → Byte → Byte → Byte → Word := fun n b0 b1 b2 =>
      BitVec.ofNat 32 (n * 2 ^ 24 + b0.toNat * 2 ^ 16 + b1.toNat * 2 ^ 8 + b2.toNat)
    let oneData : Byte → Prop := fun st => (0xC0 ≤ st.toNat ∧ st.toNat ≤ 0xDF) ∨ st = 0xF1 ∨ st = 0xF3
    let dropped : Nat := if md.ms = .awaitStatus then 0 else 1
    (0xF8 ≤ b.toNat → feedByte md b = { md := md, msg := some (word 1 b 0 0), discards := 0 }) ∧
    ((b = 0xF0 ∨ b = 0xF4 ∨ b = 0xF5 ∨ b = 0xF7) →
      feedByte md b = { md := { ms := .awaitStatus, rsb := 0, cur := 0, d1 := 0 }, msg := none, discards := dropped + 1 }) ∧
    (b = 0xF6 →
      feedByte md b =
        { md := { ms := .awaitStatus, rsb := 0, cur := 0, d1 := 0 }, msg := some (word 1 b 0 0), discards := dropped }) ∧
    ((b = 0xF1 ∨ b = 0xF2 ∨ b = 0xF3) →
      feedByte md b = { md := { ms := .awaitData1, rsb := 0, cur := b, d1 := 0 }, msg := none, discards := dropped }) ∧
    (0x80 ≤ b.toNat → b.toNat < 0xF0 →
      feedByte md b = { md := { ms := .awaitData1, rsb := b, cur := b, d1 := 0 }, msg := none, discards := dropped }) ∧
    (b.toNat < 0x80 →
      (md.ms = .awaitStatus → md.rsb = 0 → feedByte md b = { md := md, msg := none, discards := 1 }) ∧
      (md.ms = .awaitStatus → md.rsb ≠ 0 → oneData md.rsb →
        feedByte md b = { md := { md with cur := 0 }, msg := some (word 2 md.rsb b 0), discards := 0 }) ∧
      (md.ms = .awaitStatus → md.rsb ≠ 0 → ¬oneData md.rsb →
        feedByte md b = { md := { md with ms := .awaitData2, cur := md.rsb, d1 := b }, msg := none, discards := 0 }) ∧
      (md.ms = .awaitData1 → oneData md.cur →
        feedByte md b =
          { md := { md with ms := .awaitStatus, cur := 0 }, msg := some (word 2 md.cur b 0), discards := 0 }) ∧
      (md.ms = .awaitData1 → ¬oneData md.cur →
        feedByte md b = { md := { md with ms := .awaitData2, d1 := b }, msg := none, discards := 0 }) ∧
      (md.ms = .awaitData2 →
        feedByte md b =
          { md := { md with ms := .awaitStatus, cur := 0, d1 := 0 }, msg := some (word 3 md.cur md.d1 b),
            discards := 0 }))

/-- R417, its four properties: a message of two data bytes is emitted on its third byte and not before; a channel status
byte in the middle of a message drops it, counts one discard and starts the new one; every emitted message is well formed
(and the decoder stays sound); and a decoder at rest gives back exactly the messages whose bytes MIDI_ENCODE queues. -/
def Obligations.MidiDecoderProperties : Prop :=
  (∀ (md : MidiDecoder) (st d1 d2 : Byte), md.ms = .awaitStatus → datalen st = some 2 → st.toNat < 0xF0 →
    d1.toNat < 0x80 → d2.toNat < 0x80 →
      (feedBytes md [st, d1]).2.1 = [] ∧ (feedBytes md [st, d1, d2]).2.1 = [midiWord 3 st d1 d2]) ∧
  (∀ (md : MidiDecoder) (st : Byte), md.ms ≠ .awaitStatus → 0x80 ≤ st.toNat → st.toNat ≤ 0xEF →
    (feedByte md st).msg = none ∧ (feedByte md st).discards = 1 ∧
      (feedByte md st).md = { ms := .awaitData1, rsb := st, cur := st, d1 := 0 }) ∧
  (∀ (md : MidiDecoder) (b : Byte), md.sound →
    (feedByte md b).md.sound ∧ ∀ m, (feedByte md b).msg = some m → midiWordLegal m = true) ∧
  ∀ (ms : List Word) (md : MidiDecoder), (∀ m ∈ ms, midiWordLegal m = true) → md.ms = .awaitStatus → md.rsb = 0 →
    (feedBytes md (ms.flatMap midiBytes)).2.1 = ms ∧ (feedBytes md (ms.flatMap midiBytes)).2.2 = 0

/-- R414. -/
def Obligations.MidiReadTakesTheOldestMessage : Prop :=
  decodeCmd 0x00000021 = .ok .midiRead ∧ ∀ s : State,
    let p : Fin 64 := Fin.ofNat 64 s.arg[0].toNat
    let e := s.ports[p].entry
    if s.lc = .closed then exec .midiRead s = .next { s with err := .eState }
    else if 64 ≤ s.arg[0].toNat ∨ s.params.nPorts ≤ s.arg[0].toNat then
      exec .midiRead s = .next { s with err := .eArg }
    else if e.getLsbD 0 = false ∨ e.extractLsb' 2 2 ≠ 1 ∨ e.getLsbD 1 = true then
      exec .midiRead s = .next { s with err := .ePort }
    else if s.ports[p].mq = [] then exec .midiRead s = .next { s with err := .eUnderflow }
    else
      ∀ m rest, s.ports[p].mq = m :: rest →
        exec .midiRead s = .next
          { s with
            ports := s.ports.set p.val { s.ports[p] with mq := rest } p.isLt,
            res := #v[m, s.res[1], s.res[2], s.res[3]], err := .ok }

/-- R415, with the status bytes and their lengths written out from R410. -/
def Obligations.MidiEncodeQueuesTheBytes : Prop :=
  decodeCmd 0x00000022 = .ok .midiEncode ∧ ∀ s : State,
    let p : Fin 64 := Fin.ofNat 64 s.arg[0].toNat
    let e := s.ports[p].entry
    let m := s.arg[1]
    let n := m.toNat / 2 ^ 24 % 4
    let b0 := m.extractLsb' 16 8
    let b1 := m.extractLsb' 8 8
    let b2 := m.extractLsb' 0 8
    let length : Nat :=
      if b0.toNat < 0xC0 ∨ (0xE0 ≤ b0.toNat ∧ b0.toNat < 0xF0) ∨ b0 = 0xF2 then 3
      else if b0.toNat < 0xE0 ∨ b0 = 0xF1 ∨ b0 = 0xF3 then 2 else 1
    if s.lc = .closed then exec .midiEncode s = .next { s with err := .eState }
    else if 64 ≤ s.arg[0].toNat ∨ s.params.nPorts ≤ s.arg[0].toNat then
      exec .midiEncode s = .next { s with err := .eArg }
    else if e.getLsbD 0 = false ∨ e.extractLsb' 2 2 ≠ 1 ∨ e.getLsbD 1 = false then
      exec .midiEncode s = .next { s with err := .ePort }
    else if m.extractLsb' 26 6 ≠ 0 ∨ b0.toNat < 0x80 ∨ (b0 = 0xF0 ∨ b0 = 0xF4 ∨ b0 = 0xF5 ∨ b0 = 0xF7) ∨ n ≠ length ∨
        (2 ≤ n ∧ 0x80 ≤ b1.toNat) ∨ (3 ≤ n ∧ 0x80 ≤ b2.toNat) ∨ (n < 2 ∧ b1 ≠ 0) ∨ (n < 3 ∧ b2 ≠ 0) then
      exec .midiEncode s = .next { s with err := .eMidi }
    else if s.params.midiTxDepth < s.ports[p].eq.length + n then
      exec .midiEncode s = .next { s with err := .eOverflow }
    else
      exec .midiEncode s = .next
        { s with
          ports := s.ports.set p.val
            { s.ports[p] with
              eq := s.ports[p].eq ++ (if n = 1 then [b0] else if n = 2 then [b0, b1] else [b0, b1, b2]) } p.isLt,
          err := .ok }

/-! ### Cycle timer -/

/-- R231. -/
def Obligations.TicksToCyclesDivides : Prop :=
  decodeCmd 0x00000028 = .ok .ctTicksToCycles ∧ ∀ s : State,
    let t := s.arg[1].toNat * 2 ^ 32 + s.arg[0].toNat
    let c := t / 3072
    exec .ctTicksToCycles s = .next
      { s with
        res := #v[BitVec.ofNat 32 (c % 8000), BitVec.ofNat 32 (t % 3072), BitVec.ofNat 32 (c % 2 ^ 32),
          BitVec.ofNat 32 (c / 2 ^ 32)],
        err := .ok }

/-- R232. -/
def Obligations.CyclesToTicksMultiplies : Prop :=
  decodeCmd 0x00000029 = .ok .ctCyclesToTicks ∧ ∀ s : State,
    let v := s.arg[0].toNat * 3072 + s.arg[1].toNat
    if 3072 ≤ s.arg[1].toNat then exec .ctCyclesToTicks s = .next { s with err := .eArg }
    else
      exec .ctCyclesToTicks s = .next
        { s with res := #v[BitVec.ofNat 32 (v % 2 ^ 32), BitVec.ofNat 32 (v / 2 ^ 32), s.res[2], s.res[3]], err := .ok }

/-- R235 with R233 and R234, in natural numbers. -/
def Obligations.ReconstructFollowsTheAlgorithm : Prop :=
  decodeCmd 0x0000002A = .ok .ctReconstruct ∧ ∀ s : State,
    let y := s.arg[0].toNat
    let c := s.arg[1].toNat / 2 ^ 12 % 2 ^ 13
    let e := s.arg[2].toNat
    let n := c % 16
    let nib := y / 2 ^ 12
    let base := c - n + nib + if nib < n then 16 else 0
    let cyc := match s.params.wrapMode with
      | .normalised => if 8000 ≤ base then base - 8000 else base
      | .literal => base
    let sec := match s.params.wrapMode with
      | .normalised => if 8000 ≤ base then (e + 1) % 128 else e
      | .literal => if nib < n then (e + 1) % 128 else e
    if 2 ^ 16 ≤ y ∨ 2 ^ 7 ≤ e ∨ 8000 ≤ c ∨ 3072 ≤ s.arg[1].toNat % 2 ^ 12 ∨ 3072 ≤ y % 2 ^ 12 then
      exec .ctReconstruct s = .next { s with err := .eArg }
    else
      exec .ctReconstruct s = .next
        { s with
          res := #v[BitVec.ofNat 32 (sec * 2 ^ 25 + cyc * 2 ^ 12 + y % 2 ^ 12), if nib < n then 1 else 0, s.res[2],
            s.res[3]],
          err := .ok }

/-- R236, R243, R507: both wrap modes keep the SYT in the low 16 bits of the timestamp, and before the carry the
presentation cycle lies 0 to 15 cycles at or after the receipt cycle, so under NORMALISED the timestamp's cycle is that
distance ahead of the receipt cycle, modulo 8000. -/
def Obligations.ReconstructionKeepsTheSyt : Prop :=
  ∀ (y : BitVec 16) (t : Word) (e : BitVec 7), sytValid y = true → ctrValid t = true →
    (∀ mode : WrapMode,
      let ts := (recon mode y t e).1
      ctrOff ts = sytOff y ∧ (ctrCyc ts).toNat % 16 = (sytNib y).toNat ∧ ts.extractLsb' 0 16 = y) ∧
    ∃ d, d ≤ 15 ∧ reconBase y t = (ctrCyc t).toNat + d ∧
      (ctrCyc (recon .normalised y t e).1).toNat = ((ctrCyc t).toNat + d) % 8000

/-- R237: when the SYT's nibble is below the receipt cycle's, one 16-cycle wrap is applied; LITERAL leaves the cycle
unreduced and adds one second, NORMALISED reduces the cycle modulo 8000 and adds the second only when it passes 8000. -/
def Obligations.ReconstructionWrapsOnce : Prop :=
  ∀ (y : BitVec 16) (t : Word) (e : BitVec 7), sytValid y = true → ctrValid t = true →
    (sytNib y).toNat < (ctrCyc t).toNat % 16 →
    let target := (ctrCyc t).toNat + ((sytNib y).toNat + 16 - (ctrCyc t).toNat % 16)
    let literal := (recon .literal y t e).1
    let normalised := (recon .normalised y t e).1
    (ctrCyc literal).toNat = target ∧ (ctrSec literal).toNat = (e.toNat + 1) % 128 ∧
      (ctrCyc normalised).toNat = target % 8000 ∧
      (ctrSec normalised).toNat = if 8000 ≤ target then (e.toNat + 1) % 128 else e.toNat

/-- R239 with R238's `tick_of`. -/
def Obligations.ToTicksCountsEpochs : Prop :=
  decodeCmd 0x0000002B = .ok .ctToTicks ∧ ∀ s : State,
    let t := s.arg[0].toNat
    let sec := t / 2 ^ 25
    let cyc := t / 2 ^ 12 % 2 ^ 13
    let off := t % 2 ^ 12
    let advances : Bool := s.ctHave && decide (sec < s.ctLastSec.toNat)
    let epoch : Word := if advances then s.ctEpoch + 1 else s.ctEpoch
    let v := ((epoch.toNat * 128 + sec) * 8000 + cyc) * 3072 + off
    if 8000 ≤ cyc ∨ 3072 ≤ off then exec .ctToTicks s = .next { s with err := .eArg }
    else
      exec .ctToTicks s = .next
        { s with
          ctEpoch := epoch, ctLastSec := BitVec.ofNat 7 sec, ctHave := true,
          res := #v[BitVec.ofNat 32 (v % 2 ^ 32), BitVec.ofNat 32 (v / 2 ^ 32), if advances then 1 else 0, s.res[3]],
          err := .ok }

/-- R240. -/
def Obligations.FromTicksSplitsTheCount : Prop :=
  decodeCmd 0x0000002C = .ok .ctFromTicks ∧ ∀ s : State,
    let v := s.arg[1].toNat * 2 ^ 32 + s.arg[0].toNat
    exec .ctFromTicks s = .next
      { s with
        res := #v[BitVec.ofNat 32 (v / 24576000 % 128 * 2 ^ 25 + v / 3072 % 8000 * 2 ^ 12 + v % 3072), s.res[1], s.res[2],
          s.res[3]],
        err := .ok }

/-- R240's corner case, `CT_FROM_TICKS(tick_of(t, k)) = t` for every valid `t` and every `k`: CT_FROM_TICKS gives back the
cycle-timer value from the ticks CT_TO_TICKS made of it, whatever the epoch. And R232's "the inverse": CT_CYCLES_TO_TICKS
of the total cycles and the offset that CT_TICKS_TO_CYCLES gives, while the cycles fit its 32-bit operand, gives back the
ticks. -/
def Obligations.TickConversionsInvert : Prop :=
  (∀ s t u v : State,
    exec .ctToTicks s = .next t → t.err = .ok → u.arg[0] = t.res[0] → u.arg[1] = t.res[1] →
    exec .ctFromTicks u = .next v → v.res[0] = s.arg[0]) ∧
  ∀ s t u v : State,
    exec .ctTicksToCycles s = .next t → t.res[3] = 0 → u.arg[0] = t.res[2] → u.arg[1] = t.res[1] →
    exec .ctCyclesToTicks u = .next v → v.err = .ok ∧ v.res[0] = s.arg[0] ∧ v.res[1] = s.arg[1]

/-- R242 with R241, in natural numbers: `tick128` as R238 gives it. -/
def Obligations.SytCheckReportsMismatchAndBackwardStep : Prop :=
  decodeCmd 0x0000002D = .ok .ctSytCheck ∧ ∀ s : State,
    let ts := s.arg[1]
    let ticks : Word → Int := fun t => (t.toNat / 2 ^ 25 * 8000 + t.toNat / 2 ^ 12 % 2 ^ 13) * 3072 + t.toNat % 2 ^ 12
    let mism : Bool := decide (ts.toNat % 2 ^ 16 ≠ s.arg[0].toNat)
    let back : Bool := s.sytmonHave && decide (1572864000 ≤ (ticks ts - ticks s.sytmonLast) % 3145728000)
    if 2 ^ 16 ≤ s.arg[0].toNat then exec .ctSytCheck s = .next { s with err := .eArg }
    else
      exec .ctSytCheck s = .next
        { s with
          counters := { s.counters with sytmon := s.counters.sytmon + (if mism || back then 1 else 0) },
          sytmonLast := ts, sytmonHave := true,
          res := #v[(if mism then 1 else 0) + (if back then 2 else 0), s.res[1], s.res[2], s.res[3]], err := .ok }

/-! ### ISO transactions -/

/-- R310 with R123's add and R315's enabling: an enabled ISO_PUT counts the dropped cycles, then refuses with a count or
stores the packet in the slot of `W`; it always answers OK. That the answer stands in the state is the model's choice (log
2, DESIGN CHOICE). -/
def Obligations.IsoPutReceivesAPacket : Prop :=
  ∀ (s : State) (data : List Byte) (channel : BitVec 6) (tag : BitVec 2) (sy : BitVec 4) (cycle : BitVec 13)
    (dropped ctr : Word),
    let put := exec (.isoPut data channel tag sy cycle dropped ctr) s
    let lost := s.counters.llDropped + dropped
    s.lc = .running → s.brp = false → s.dir = .rx →
      if channel ≠ s.chan ∨ data.length < s.hdrSize.toNat ∨ s.maxPkt.toNat < data.length then
        put = .next
          { s with
            counters := { s.counters with llDropped := lost, isoProto := s.counters.isoProto + 1 },
            resp := .isoPut .ok }
      else if fill s.cap s.wIdx s.rAtP = s.cap.toNat then
        put = .next
          { s with
            counters := { s.counters with llDropped := lost, overflow := s.counters.overflow + 1 },
            resp := .isoPut .ok }
      else
        ∃ (ring : Memory) (table : MetaTable),
          ringAdded s data { len := BitVec.ofNat 13 data.length, tag, sy, cycle, ctr } ring table ∧
          put = .next
            { s with
              counters := { s.counters with llDropped := lost }, ring := ring, slotMeta := table,
              wIdx := BitVec.ofNat 14 ((s.wIdx.toNat + 1) % (2 * s.cap.toNat)), resp := .isoPut .ok }

/-- R311 with R313's no-data packet, R124's get and R315's enabling: an enabled ISO_GET with room for a CIP header counts
the dropped cycles and sends the packet in the slot of `R`, or the no-data packet; with less room it is the interface fault
IF_MAXLEN. That the fault answers no state, so that CNT_LL_DROPPED's addition before it is not seen, is the model's reading
(log 6, DEDUCED); that the answer stands in the state is its choice (log 2, DESIGN CHOICE). -/
def Obligations.IsoGetSendsAPacket : Prop :=
  ∀ (s : State) (cycle : BitVec 13) (dropped : Word) (maxLength : BitVec 16),
    let get := exec (.isoGet cycle dropped maxLength) s
    let lost := s.counters.llDropped + dropped
    let k := s.rIdx.toNat % s.cap.toNat
    let L := (s.metaAt k).len.toNat
    let bytes := (List.range L).map fun j => s.ringByte (k * s.maxPkt.toNat + j)
    let next := BitVec.ofNat 14 ((s.rIdx.toNat + 1) % (2 * s.cap.toNat))
    let nodata : List Byte :=
      [ BitVec.ofNat 8 (s.txCip.toNat % 2 ^ 6), s.dim, 0, s.isoDbcNext,
        BitVec.ofNat 8 (2 ^ 7 + s.txCip.toNat / 2 ^ 8 % 2 ^ 6), BitVec.ofNat 8 (s.txCip.toNat / 2 ^ 16), 0xFF, 0xFF ]
    let out : List Byte → Response := fun d =>
      .isoGet d (BitVec.ofNat 16 d.length) (s.txIso.extractLsb' 0 2) (s.txIso.extractLsb' 4 4) .ok
    s.lc = .running → s.brp = false → s.dir = .tx →
      if maxLength.toNat < 8 then get = .fault .ifMaxLen
      else if fill s.cap s.wAtC s.rIdx = 0 then
        get = .next
          { s with
            counters := { s.counters with llDropped := lost, underflow := s.counters.underflow + 1 },
            resp := out nodata }
      else if maxLength.toNat < L ∨ L < 8 then
        get = .next
          { s with
            counters := { s.counters with llDropped := lost, isoProto := s.counters.isoProto + 1 },
            rIdx := next, resp := out nodata }
      else
        get = .next
          { s with
            counters := { s.counters with llDropped := lost }, rIdx := next,
            isoDbcNext :=
              BitVec.ofNat 8 ((s.ringByte (k * s.maxPkt.toNat + 3)).toNat + (L - 8) / (4 * s.dim.toNat)),
            resp := out bytes }

/-- R311, R314: every enabled ISO_GET with room for a CIP header sends exactly one packet, of 8 to `maxLength` bytes, with
its length, and answers OK. That the answer stands in the state is the model's choice (log 2, DESIGN CHOICE). -/
def Obligations.IsoGetAlwaysSendsALegalPacket : Prop :=
  ∀ (s : State) (cycle : BitVec 13) (dropped : Word) (maxLength : BitVec 16),
    s.getEnabled = true → 8 ≤ maxLength.toNat →
      ∃ (t : State) (data : List Byte) (length : BitVec 16),
        exec (.isoGet cycle dropped maxLength) s = .next t ∧
        t.resp = .isoGet data length (txIsoTag s.txIso) (txIsoSy s.txIso) .ok ∧
        8 ≤ data.length ∧ data.length ≤ maxLength.toNat ∧ length.toNat = data.length

/-- R312, R336: a bus reset is always enabled and sets BRP and counts, unless no stream is open; RESUME takes the newly
allocated channel and clears BRP. That a bus reset leaves the answer field empty is the model's choice (log 2, DESIGN
CHOICE). -/
def Obligations.BusResetAndResume : Prop :=
  decodeCmd 0x00000006 = .ok .resume ∧ ∀ s : State,
    (if s.lc = .closed then exec .isoBusReset s = .next { s with resp := .none }
      else
        exec .isoBusReset s = .next
          { s with
            brp := true, counters := { s.counters with busReset := s.counters.busReset + 1 }, resp := .none }) ∧
    if s.lc = .closed ∨ s.brp = false then exec .resume s = .next { s with err := .eState }
    else if 64 ≤ s.arg[0].toNat then exec .resume s = .next { s with err := .eArg }
    else exec .resume s = .next { s with chan := BitVec.ofNat 6 s.arg[0].toNat, brp := false, err := .ok }

/-- R315 as the model takes it (log 4, DESIGN CHOICE): an ISO_PUT or ISO_GET that is not enabled does not occur; the block
is unchanged and the answer, which stands in the state (log 2, DESIGN CHOICE), says so. -/
def Obligations.DisabledTransactionsDoNotOccur : Prop :=
  (∀ (s : State) (data : List Byte) (channel : BitVec 6) (tag : BitVec 2) (sy : BitVec 4) (cycle : BitVec 13)
    (dropped ctr : Word), (s.lc ≠ .running ∨ s.brp = true ∨ s.dir = .tx) →
      exec (.isoPut data channel tag sy cycle dropped ctr) s = .next { s with resp := .notEnabled }) ∧
  ∀ (s : State) (cycle : BitVec 13) (dropped : Word) (maxLength : BitVec 16),
    (s.lc ≠ .running ∨ s.brp = true ∨ s.dir = .rx) →
      exec (.isoGet cycle dropped maxLength) s = .next { s with resp := .notEnabled }

/-! ### Host accesses, SYNC and reset -/

/-- R52: the map. A byte offset, inside the window or past its end, names a register exactly if R52 lists it at that offset
and the instance has it. -/
def Obligations.TheMapIsTheSpecs : Prop :=
  ∀ (p : Params) (off : Nat) (r : Csr), csrAt p off = some r ↔ csrExists p r = true ∧ csrOffset r = off

/-- R131, R52: a host read changes nothing but the model's own fields and answers with the register's value, in the
fields R52 gives each register: STATUS shows the flags and codes of R54; the ring indices are read in the APP side's view
(R59); a register that ISO owns is read through its shadow (R127, R61); PORT is the stored entry with bit 5, ENABLED,
computed by R67 (R63); PORTSTAT packs the fill of the port's queue, its decoder's state and its running status (R64), the
fill whole in a state that keeps the port table's invariant; a TXB word holds its bytes with the lowest in bits [31:24]
(R65, R122). How the model's own fields move is the model's (logs 1, 2, 5, 21). -/
def Obligations.HostReadsHaveNoSideEffect : Prop :=
  ∀ (s : State) (off : Nat) (r : Csr) (rest : List Request),
    s.input = .hostRead 32 off :: rest → csrExists s.params r = true → csrOffset r = off →
      ∃ v : Word, step s = .next { s with input := rest, draw := s.draw + 1, resp := .readData v } ∧
        ((∀ a, r ≠ .txb a) → v = s.readCsr r) ∧
        match r with
        | .id => v = 0x1394A824
        | .param0 =>
          v.extractLsb' 0 8 = BitVec.ofNat 8 s.params.nPorts ∧ v.getLsbD 8 = decide (s.params.wrapMode = .literal) ∧
            v.extractLsb' 9 23 = 0
        | .param1 => v = BitVec.ofNat 32 s.params.ramBytes
        | .param2 =>
          v.extractLsb' 0 16 = BitVec.ofNat 16 s.params.capMax ∧
            v.extractLsb' 16 16 = BitVec.ofNat 16 s.params.maxPktLimit
        | .param3 =>
          v.extractLsb' 0 16 = BitVec.ofNat 16 s.params.portDepth ∧
            v.extractLsb' 16 16 = BitVec.ofNat 16 s.params.midiMsgDepth
        | .param4 => v.extractLsb' 0 16 = BitVec.ofNat 16 s.params.midiTxDepth ∧ v.extractLsb' 16 16 = 0
        | .cmd => v = s.cmd
        | .status =>
          v.extractLsb' 0 3 = s.lc.code ∧ v.extractLsb' 3 1 = s.dir.code ∧ v.getLsbD 4 = s.brp ∧
          v.getLsbD 5 = s.cpktValid ∧ v.getLsbD 6 = s.tsValid ∧ v.getLsbD 7 = s.sytmonHave ∧
          v.extractLsb' 8 8 = s.err.code ∧ v.extractLsb' 16 2 = s.tier.code ∧ v.extractLsb' 18 2 = s.opt.code ∧
          v.getLsbD 20 = s.ctHave ∧ v.extractLsb' 21 11 = 0
        | .chan => v.toNat = s.chan.toNat
        | .dim => v.toNat = s.dim.toNat
        | .arg i => v = s.arg[i]
        | .res i => v = s.res[i]
        | .supported => v = s.supported
        | .txCip => v = s.txCip
        | .txIso => v = s.txIso
        | .dbcTx => v.toNat = s.dbcTx.toNat
        | .rbHdrSize => v.toNat = s.hdrSize.toNat
        | .rbCap => v.toNat = s.cap.toNat
        | .rbMaxPkt => v.toNat = s.maxPkt.toNat
        | .rbWIdx => v.toNat = if s.dir = .rx then s.wAtC.toNat else s.wIdx.toNat
        | .rbRIdx => v.toNat = if s.dir = .rx then s.rIdx.toNat else s.rAtP.toNat
        | .cpktLen => v.toNat = s.cpktLen.toNat
        | .cpktMeta => v = s.cpktMeta
        | .cpktCtr => v = s.cpktCtr
        | .lastCip0 => v = s.lastCip0
        | .lastCip1 => v = s.lastCip1
        | .lastTs => v = s.lastTs
        | .sytmonLast => v = s.sytmonLast
        | .ctLastSec => v.toNat = s.ctLastSec.toNat
        | .ctEpoch => v = s.ctEpoch
        | .isoDbcNext => v.toNat = s.shadows.isoDbcNext.toNat
        | .counter .overflow => v = if s.dir = .rx then s.shadows.overflow else s.counters.overflow
        | .counter .underflow => v = if s.dir = .rx then s.counters.underflow else s.shadows.underflow
        | .counter .isoProto => v = s.shadows.isoProto
        | .counter .llDropped => v = s.shadows.llDropped
        | .counter .busReset => v = s.shadows.busReset
        | .counter .proto => v = s.counters.proto
        | .counter .portOvf => v = s.counters.portOvf
        | .counter .portUnf => v = s.counters.portUnf
        | .counter .midiDiscard => v = s.counters.midiDiscard
        | .counter .sytmon => v = s.counters.sytmon
        | .port p =>
          let e := s.ports[p].entry
          (∀ b, b ≠ 5 → v.getLsbD b = e.getLsbD b) ∧
            v.getLsbD 5 = (e.getLsbD 0 && e.getLsbD (18 + 3 * s.opt.code.toNat + s.tier.code.toNat))
        | .portStat p =>
          let q := s.ports[p]
          let valid : Bool := q.entry.getLsbD 0
          let midi : Prop := q.entry.extractLsb' 2 2 = 1
          let playback : Bool := q.entry.getLsbD 1
          let items : Nat :=
            if valid = false then 0
            else if midi then if playback then q.eq.length else q.mq.length
            else q.pf.length
          v.extractLsb' 0 16 = BitVec.ofNat 16 items ∧
          (s.params.legal → s.portsSound → (v.extractLsb' 0 16).toNat = items) ∧
          v.extractLsb' 16 2 =
            (if valid = true ∧ midi ∧ playback = false then
              match q.md.ms with
              | .awaitStatus => 0
              | .awaitData1 => 1
              | .awaitData2 => 2
            else 0) ∧
          v.extractLsb' 18 6 = 0 ∧
          v.extractLsb' 24 8 = if valid = true ∧ midi ∧ playback = false then q.md.rsb else 0
        | .txb a => ∀ j b, j < 4 → lookupAt s.txb (a + j) = some b → v.extractLsb' (24 - 8 * j) 8 = b

/-- R457: the host accesses that get a bus error, which are not performed and change nothing of the block; the offset is any
byte offset from the window's base, also one past its end (log 15, DESIGN CHOICE). That the bus error is an answer, in the
model's own field, is the model's reading (log 20, DEDUCED); how the model's own fields move is its choice (logs 1, 2, 5,
DESIGN CHOICE). -/
def Obligations.BadAccessesGetABusError : Prop :=
  (∀ (s : State) (bits : Nat) (off : Nat) (rest : List Request), s.input = .hostRead bits off :: rest →
    (bits ≠ 32 ∨ off % 4 ≠ 0 ∨ ∀ r, csrExists s.params r = true → csrOffset r ≠ off) →
      step s = .next { s with input := rest, draw := s.draw + 1, resp := .busError }) ∧
  ∀ (s : State) (bits : Nat) (off : Nat) (v : Word) (rest : List Request),
    s.input = .hostWrite bits off v :: rest →
    (bits ≠ 32 ∨ off % 4 ≠ 0 ∨ (∀ r, csrExists s.params r = true → csrOffset r ≠ off) ∨
      (∃ r, csrExists s.params r = true ∧ csrOffset r = off ∧ csrWritable r = false) ∨
      (off = 0x0060 ∧ v.extractLsb' 9 23 ≠ 0) ∨
      (off = 0x0064 ∧ (v.extractLsb' 6 2 ≠ 0 ∨ v.extractLsb' 14 2 ≠ 0 ∨ v.extractLsb' 24 8 ≠ 0)) ∨
      (off = 0x0068 ∧ (v.extractLsb' 2 2 ≠ 0 ∨ v.extractLsb' 8 24 ≠ 0)) ∨
      ((off = 0x0064 ∨ off = 0x0068) ∧ s.lc = .running)) →
      step s = .next { s with input := rest, draw := s.draw + 1, resp := .busError }

/-- R41, R55, R56, R57, R65, R122: a host write to a writable register other than CMD stores the value and changes nothing
else of the block. How the model's own fields move is the model's (logs 1, 2, 5, 21). -/
def Obligations.HostWritesStoreTheValue : Prop :=
  ∀ (s : State) (off : Nat) (v : Word) (rest : List Request), s.input = .hostWrite 32 off v :: rest →
    let t := { s with input := rest, draw := s.draw + 1, resp := .written }
    (∀ i : Fin 8, off = 0x0030 + 4 * i.val → step s = .next { t with arg := s.arg.set i.val v i.isLt }) ∧
    (off = 0x0060 → v.extractLsb' 9 23 = 0 → step s = .next { t with supported := v }) ∧
    (off = 0x0064 → v &&& 0xFF00C0C0 = 0 → s.lc ≠ .running → step s = .next { t with txCip := v }) ∧
    (off = 0x0068 → v &&& 0xFFFFFF0C = 0 → s.lc ≠ .running → step s = .next { t with txIso := v }) ∧
    ∀ a, off = 0x1000 + a → a % 4 = 0 → a < s.params.maxPktLimit →
      ∃ txb : Memory, step s = .next { t with txb := txb } ∧
        (∀ j, j < 4 → lookupAt txb (a + j) = some (v.extractLsb' (24 - 8 * j) 8)) ∧
        ∀ b, b < a ∨ a + 4 ≤ b → lookupAt txb b = lookupAt s.txb b

/-- R127, R126: each SYNC step copies one register into its shadow and changes nothing else. That CNT_OVERFLOW is copied
only in a receive stream and CNT_UNDERFLOW only in a transmit stream is read from R126's table (log 8, DEDUCED). How the
model's own fields move is the model's choice (logs 1, 2, 5, DESIGN CHOICE). -/
def Obligations.SyncCopiesOneRegister : Prop :=
  ∀ (s : State) (x : CdcReg) (rest : List Request), s.input = .sync x :: rest →
    let t := { s with input := rest, draw := s.draw + 1, resp := .none }
    match x with
    | .w => step s = .next { t with wAtC := s.wIdx }
    | .r => step s = .next { t with rAtP := s.rIdx }
    | .cntOverflow =>
      step s = .next (if s.dir = .rx then { t with shadows := { s.shadows with overflow := s.counters.overflow } } else t)
    | .cntUnderflow =>
      step s = .next (if s.dir = .tx then { t with shadows := { s.shadows with underflow := s.counters.underflow } } else t)
    | .cntIsoProto => step s = .next { t with shadows := { s.shadows with isoProto := s.counters.isoProto } }
    | .cntLlDropped => step s = .next { t with shadows := { s.shadows with llDropped := s.counters.llDropped } }
    | .cntBusReset => step s = .next { t with shadows := { s.shadows with busReset := s.counters.busReset } }
    | .isoDbcNext => step s = .next { t with shadows := { s.shadows with isoDbcNext := s.isoDbcNext } }

/-- R500, R52: the hardware reset brings every register, port, queue, decoder and shadow to its reset value, with nothing
written in TXB, RING and META, whatever the state; the parameters are fixed (R7). Right after it every register of the map
but TXB reads as R52's reset column says. The model's are: a reset is one request, and the model's own fields go on (log
11, DEDUCED; logs 1 and 2, DESIGN CHOICE); all 64 entries of its table are cleared (log 13, DESIGN CHOICE); and bytes that
hold any value are those of an empty memory, each read of which is a free value (log 5, DESIGN CHOICE). -/
def Obligations.HardwareResetClearsTheBlock : Prop :=
  (∀ (p : Params) (r : Csr) (v : Word), p.legal → csrResetValue p r = some v → (State.resetOf p).readCsr r = v) ∧
  ∀ (s : State) (rest : List Request), s.input = .hwReset :: rest →
    step s = .next
      { params := s.params, arg := #v[0, 0, 0, 0, 0, 0, 0, 0], res := #v[0, 0, 0, 0], cmd := 0, err := .ok,
        lc := .closed, dir := .rx, chan := 0, dim := 0, brp := false, hdrSize := 0, cap := 0, maxPkt := 0,
        wIdx := 0, rIdx := 0, wAtC := 0, rAtP := 0, tier := .x1, opt := .none, cpktValid := false, tsValid := false,
        sytmonHave := false, ctHave := false, supported := 1, txCip := 0, txIso := 1, dbcTx := 0, isoDbcNext := 0,
        cpktLen := 0, cpktMeta := 0, cpktCtr := 0, lastCip0 := 0, lastCip1 := 0, lastTs := 0, sytmonLast := 0,
        ctLastSec := 0, ctEpoch := 0,
        counters :=
          { overflow := 0, underflow := 0, isoProto := 0, llDropped := 0, busReset := 0, proto := 0, portOvf := 0,
            portUnf := 0, midiDiscard := 0, sytmon := 0 },
        shadows :=
          { overflow := 0, underflow := 0, isoProto := 0, llDropped := 0, busReset := 0, isoDbcNext := 0 },
        ports :=
          Vector.replicate 64
            { entry := 0, pf := [], mq := [], eq := [], md := { ms := .awaitStatus, rsb := 0, cur := 0, d1 := 0 } },
        txb := [], ring := [], slotMeta := [], draw := s.draw + 1, input := rest, resp := .none }

/-! ### Rules over all instructions -/

/-- R456: the two interface faults are the only faults, and each stands exactly where the rule says. Beside them only a
request of kind 0 with more than 65535 bytes has no next state. R185 gives ISO_PUT's length as 0 to 65535, so it is no
transaction; that it is refused by name is the model's choice (log 10, DESIGN CHOICE). -/
def Obligations.OnlyTheInterfaceFaultsStop : Prop :=
  ∀ s : State,
    (step s = .fault .ifKind ↔ ∃ r rest, s.input = .iso r :: rest ∧ r.kind = 3) ∧
    (step s = .fault .ifMaxLen ↔ ∃ r rest, s.input = .iso r :: rest ∧ r.kind = 1 ∧ r.maxLength.toNat < 8 ∧
      s.lc = .running ∧ s.brp = false ∧ s.dir = .tx) ∧
    ∀ x, step s = .refused x ↔
      x = .noSuchTransaction ∧ ∃ r rest, s.input = .iso r :: rest ∧ r.kind = 0 ∧ 65535 < r.data.length

/-- R452, as far as it says which errors a command can end with, and R454: every host command answers a next state, with OK
or an error of its row of R452; no ISO transaction changes `STATUS.ERR`. The order of a command's checks is said by the
command's own statement. -/
def Obligations.CommandsEndWithTheirOwnErrors : Prop :=
  (∀ (w : Word) (i : Instr) (s : State), decodeCmd w = .ok i →
    ∃ t, exec i s = .next t ∧ (t.err = .ok ∨ t.err ∈ commandErrors i)) ∧
  ∀ (r : IsoRecord) (i : Instr) (s t : State), decodeIso r = .ok i → exec i s = .next t → t.err = s.err

/-- R450, R14: errors are precise. A command that ends with an error writes no RES register and changes nothing but what
its rule lists before the error: CNT_OVERFLOW by RB_ADD, CNT_UNDERFLOW by RB_GET, CNT_PROTO, CPKT_VALID and the last header
by SP_DEMUX, and INIT's teardown with E_RESOURCE. -/
def Obligations.ErrorsArePrecise : Prop :=
  ∀ (w : Word) (i : Instr) (s t : State), decodeCmd w = .ok i → exec i s = .next t → t.err ≠ .ok →
    t = { s with err := t.err } ∨
    (i = .rbAdd ∧ t.err = .eOverflow ∧ t = { s with err := t.err, counters := s.counters.add .overflow 1 }) ∨
    (i = .rbGet ∧ t.err = .eUnderflow ∧ t = { s with err := t.err, counters := s.counters.add .underflow 1 }) ∨
    (i = .spDemux ∧ t.cpktValid = false ∧
      t = { s with
            err := t.err, counters := s.counters.add .proto 1, cpktValid := false, lastCip0 := t.lastCip0,
            lastCip1 := t.lastCip1 }) ∨
    (i = .init ∧ t.err = .eResource ∧ t = { s.teardown with err := .eResource })

/-- R43: an ISO transaction writes only what the ISO domain owns: its counters, BRP and ISO_DBC_NEXT, and in a receive
stream the producer's side of the ring, in a transmit stream the consumer's. -/
def Obligations.IsoWritesOnlyItsOwnDomain : Prop :=
  ∀ (r : IsoRecord) (i : Instr) (s t : State), decodeIso r = .ok i → exec i s = .next t →
    ∃ (overflow underflow isoProto llDropped busReset : Word),
      t = { s with
            counters := { s.counters with overflow, underflow, isoProto, llDropped, busReset },
            brp := t.brp, isoDbcNext := t.isoDbcNext, wIdx := t.wIdx, rIdx := t.rIdx, ring := t.ring,
            slotMeta := t.slotMeta, resp := t.resp } ∧
      (s.brp = true → t.brp = true) ∧
      (s.dir = .rx → underflow = s.counters.underflow ∧ t.rIdx = s.rIdx ∧ t.isoDbcNext = s.isoDbcNext) ∧
      (s.dir = .tx →
        overflow = s.counters.overflow ∧ t.wIdx = s.wIdx ∧ t.ring = s.ring ∧ t.slotMeta = s.slotMeta)

/-- R44: the lifecycle changes only along its arrows, by the commands that label them, and by the hardware reset. -/
def Obligations.LifecycleFollowsItsDiagram : Prop :=
  ∀ s t : State, step s = .next t → t.lc ≠ s.lc →
    (s.resetsNext ∧ t.lc = .closed) ∨
    (s.runsCommand .openStream ∧ s.lc = .closed ∧ t.lc = .opened) ∨
    (s.runsCommand .init ∧ s.lc = .opened ∧ (t.lc = .ready ∨ (t.lc = .closed ∧ t.err = .eResource))) ∨
    (s.runsCommand .start ∧ (s.lc = .ready ∨ s.lc = .stopped) ∧ t.lc = .running) ∨
    (s.runsCommand .stop ∧ s.lc = .running ∧ t.lc = .stopped) ∨
    (s.runsCommand .close ∧ (s.lc = .opened ∨ s.lc = .ready ∨ s.lc = .stopped) ∧ t.lc = .closed)

/-- R41, R45, R46, R47, R49, R51, R55, R56, R57, R60, R501: which step may change each configuration register, the operand
registers and the tick-extension state: beside the hardware reset only the commands and host writes named. -/
def Obligations.OnlyItsCommandWritesARegister : Prop :=
  ∀ s t : State, step s = .next t → ¬s.resetsNext →
    (t.dir ≠ s.dir ∨ t.dim ≠ s.dim → s.runsCommand .openStream) ∧
    (t.chan ≠ s.chan → s.runsCommand .openStream ∨ s.runsCommand .resume) ∧
    (t.hdrSize ≠ s.hdrSize ∨ t.cap ≠ s.cap ∨ t.maxPkt ≠ s.maxPkt → s.runsCommand .init ∨ s.runsCommand .close) ∧
    (t.tier ≠ s.tier ∨ t.opt ≠ s.opt → s.runsCommand .setConfig) ∧
    (t.ctEpoch ≠ s.ctEpoch ∨ t.ctLastSec ≠ s.ctLastSec ∨ t.ctHave ≠ s.ctHave → s.runsCommand .ctToTicks) ∧
    (t.supported ≠ s.supported → s.writesNext .supported t.supported) ∧
    (t.txCip ≠ s.txCip → s.writesNext .txCip t.txCip ∧ s.lc ≠ .running) ∧
    (t.txIso ≠ s.txIso → s.writesNext .txIso t.txIso ∧ s.lc ≠ .running) ∧
    (∀ i : Fin 8, t.arg[i] ≠ s.arg[i] → s.writesNext (.arg i) t.arg[i]) ∧
    (t.cmd ≠ s.cmd → s.writesNext .cmd t.cmd) ∧ t.params = s.params

/-! ### Invariants and the ring as a queue -/

/-- The state after reset, of an instance with legal parameters, keeps every invariant stated below. That the reset state is
that of R7's default parameters is the model's reading (log 7, DEDUCED), and the memories' canonical form is the model's own
(log 5, DESIGN CHOICE). -/
def Obligations.ResetKeepsTheInvariants : Prop :=
  Params.default.legal ∧ State.reset = State.resetOf Params.default ∧
  ∀ p : Params, p.legal →
    (State.resetOf p).memoriesCanonical ∧ (State.resetOf p).reservedBitsClear ∧ (State.resetOf p).ringSafe ∧
      (State.resetOf p).fetchedHeld ∧ (State.resetOf p).portsSound ∧ (State.resetOf p).packets = []

/-- Every step keeps TXB, RING and META in canonical form (keys strictly rising). That form is the model's own choice of
data (log 5, notes/assumptions/5.md, DESIGN CHOICE) and no rule of the spec. -/
def Obligations.StepKeepsTheMemoriesCanonical : Prop :=
  ∀ s t : State, s.memoriesCanonical → step s = .next t → t.memoriesCanonical

/-- R54, R55, R56, R57, R272: every step keeps the reserved bits of SUPPORTED, TX_CIP and TX_ISO at 0, and keeps the
packet that CPKT_VALID announces in TXB. -/
def Obligations.StepKeepsTheRegistersInForm : Prop :=
  ∀ s t : State, step s = .next t →
    (s.reservedBitsClear → t.reservedBitsClear) ∧ (s.fetchedHeld → t.fetchedHeld)

/-- R125, R124, R270: every step keeps the order `R@P ≤ R ≤ W@C ≤ W ≤ R@P + CAP` of the indices, INIT's configuration
while the ring is ready, and every slot from `R@P` up to `W` filled. -/
def Obligations.StepKeepsTheRingSafe : Prop :=
  ∀ s t : State, s.ringSafe → step s = .next t → t.ringSafe

/-- R360, R362, R368, R411: every step keeps every port entry inside its data block and of the stream's direction, every
queue within its depth and of its port's kind, every decoder sound, every queued message well formed, and playback slots
disjoint. -/
def Obligations.StepKeepsThePortsSound : Prop :=
  ∀ s t : State, s.portsSound → step s = .next t → t.portsSound

/-- R134, R275, R123, R124: the ring is FIFO. The producer's add appends its packet to the packets in the ring, the
consumer's get takes the oldest one and gives its bytes and metadata, and every other step leaves the packets as they are
or, where it sets the indices, empties the ring. That ISO_GET's packet stands in the answer field is the model's choice
(log 2, DESIGN CHOICE). -/
def Obligations.TheRingIsAQueue : Prop :=
  (∀ s t : State, s.ringSafe → exec .rbAdd s = .next t → t.err = .ok →
    t.packets = s.packets ++
      [{ bytes := (List.range s.arg[0].toNat).map s.txbByte, tag := 0, sy := 0, cycle := 0, ctr := 0 }]) ∧
  (∀ (s t : State) (data : List Byte) (channel : BitVec 6) (tag : BitVec 2) (sy : BitVec 4) (cycle : BitVec 13)
    (dropped ctr : Word), s.ringSafe → exec (.isoPut data channel tag sy cycle dropped ctr) s = .next t →
      t.packets = s.packets ∨ t.packets = s.packets ++ [{ bytes := data, tag, sy, cycle, ctr }]) ∧
  (∀ s t : State, s.ringSafe → exec .rbGet s = .next t → t.err = .ok →
    ∃ pkt, s.packets = pkt :: t.packets ∧ t.cpktLen.toNat = pkt.bytes.length ∧
      (∀ j, j < pkt.bytes.length → lookupAt t.txb j = pkt.bytes[j]?) ∧
      t.cpktMeta = metaWord pkt.tag pkt.sy pkt.cycle ∧ t.cpktCtr = pkt.ctr) ∧
  (∀ (s t : State) (cycle : BitVec 13) (dropped : Word) (maxLength : BitVec 16), s.ringSafe → s.getEnabled = true →
    exec (.isoGet cycle dropped maxLength) s = .next t →
      (s.consumerFill = 0 ∧ t.packets = s.packets) ∨
      ∃ pkt, s.packets = pkt :: t.packets ∧
        (8 ≤ pkt.bytes.length → pkt.bytes.length ≤ maxLength.toNat →
          t.resp = .isoGet pkt.bytes (BitVec.ofNat 16 pkt.bytes.length) (txIsoTag s.txIso) (txIsoSy s.txIso) .ok)) ∧
  ∀ s t : State, s.ringSafe → step s = .next t →
    t.packets = s.packets ∨ (∃ pkt, t.packets = s.packets ++ [pkt]) ∨ (∃ pkt, s.packets = pkt :: t.packets) ∨
      (t.packets = [] ∧ (t.lc = .closed ∨ t.lc = .opened ∨ (s.lc = .opened ∧ t.lc = .ready)))
end

