-- ==== Sys2Proof/Laws/State.lean ====
section
/-! SUPPORT. The named updates of State: one lemma per field per update, true by rfl, so that no proof unfolds an update. -/

namespace Sys2Proof.Machine

/-! ### `raise` -/

section
variable (s : State) (e : ErrCode)

@[simp] theorem State.raise_params : (s.raise e).params = s.params := rfl
@[simp] theorem State.raise_arg : (s.raise e).arg = s.arg := rfl
@[simp] theorem State.raise_res : (s.raise e).res = s.res := rfl
@[simp] theorem State.raise_cmd : (s.raise e).cmd = s.cmd := rfl
@[simp] theorem State.raise_err : (s.raise e).err = e := rfl
@[simp] theorem State.raise_lc : (s.raise e).lc = s.lc := rfl
@[simp] theorem State.raise_dir : (s.raise e).dir = s.dir := rfl
@[simp] theorem State.raise_chan : (s.raise e).chan = s.chan := rfl
@[simp] theorem State.raise_dim : (s.raise e).dim = s.dim := rfl
@[simp] theorem State.raise_brp : (s.raise e).brp = s.brp := rfl
@[simp] theorem State.raise_hdrSize : (s.raise e).hdrSize = s.hdrSize := rfl
@[simp] theorem State.raise_cap : (s.raise e).cap = s.cap := rfl
@[simp] theorem State.raise_maxPkt : (s.raise e).maxPkt = s.maxPkt := rfl
@[simp] theorem State.raise_wIdx : (s.raise e).wIdx = s.wIdx := rfl
@[simp] theorem State.raise_rIdx : (s.raise e).rIdx = s.rIdx := rfl
@[simp] theorem State.raise_wAtC : (s.raise e).wAtC = s.wAtC := rfl
@[simp] theorem State.raise_rAtP : (s.raise e).rAtP = s.rAtP := rfl
@[simp] theorem State.raise_tier : (s.raise e).tier = s.tier := rfl
@[simp] theorem State.raise_opt : (s.raise e).opt = s.opt := rfl
@[simp] theorem State.raise_cpktValid : (s.raise e).cpktValid = s.cpktValid := rfl
@[simp] theorem State.raise_tsValid : (s.raise e).tsValid = s.tsValid := rfl
@[simp] theorem State.raise_sytmonHave : (s.raise e).sytmonHave = s.sytmonHave := rfl
@[simp] theorem State.raise_ctHave : (s.raise e).ctHave = s.ctHave := rfl
@[simp] theorem State.raise_supported : (s.raise e).supported = s.supported := rfl
@[simp] theorem State.raise_txCip : (s.raise e).txCip = s.txCip := rfl
@[simp] theorem State.raise_txIso : (s.raise e).txIso = s.txIso := rfl
@[simp] theorem State.raise_dbcTx : (s.raise e).dbcTx = s.dbcTx := rfl
@[simp] theorem State.raise_isoDbcNext : (s.raise e).isoDbcNext = s.isoDbcNext := rfl
@[simp] theorem State.raise_cpktLen : (s.raise e).cpktLen = s.cpktLen := rfl
@[simp] theorem State.raise_cpktMeta : (s.raise e).cpktMeta = s.cpktMeta := rfl
@[simp] theorem State.raise_cpktCtr : (s.raise e).cpktCtr = s.cpktCtr := rfl
@[simp] theorem State.raise_lastCip0 : (s.raise e).lastCip0 = s.lastCip0 := rfl
@[simp] theorem State.raise_lastCip1 : (s.raise e).lastCip1 = s.lastCip1 := rfl
@[simp] theorem State.raise_lastTs : (s.raise e).lastTs = s.lastTs := rfl
@[simp] theorem State.raise_sytmonLast : (s.raise e).sytmonLast = s.sytmonLast := rfl
@[simp] theorem State.raise_ctLastSec : (s.raise e).ctLastSec = s.ctLastSec := rfl
@[simp] theorem State.raise_ctEpoch : (s.raise e).ctEpoch = s.ctEpoch := rfl
@[simp] theorem State.raise_counters : (s.raise e).counters = s.counters := rfl
@[simp] theorem State.raise_shadows : (s.raise e).shadows = s.shadows := rfl
@[simp] theorem State.raise_ports : (s.raise e).ports = s.ports := rfl
@[simp] theorem State.raise_txb : (s.raise e).txb = s.txb := rfl
@[simp] theorem State.raise_ring : (s.raise e).ring = s.ring := rfl
@[simp] theorem State.raise_slotMeta : (s.raise e).slotMeta = s.slotMeta := rfl
@[simp] theorem State.raise_draw : (s.raise e).draw = s.draw := rfl
@[simp] theorem State.raise_input : (s.raise e).input = s.input := rfl
@[simp] theorem State.raise_resp : (s.raise e).resp = s.resp := rfl

end

/-! ### `withRes` -/

section
variable (s : State) (i : Fin 4) (v : Word)

@[simp] theorem State.withRes_params : (s.withRes i v).params = s.params := rfl
@[simp] theorem State.withRes_arg : (s.withRes i v).arg = s.arg := rfl
@[simp] theorem State.withRes_res : (s.withRes i v).res = s.res.set i.val v i.isLt := rfl
@[simp] theorem State.withRes_cmd : (s.withRes i v).cmd = s.cmd := rfl
@[simp] theorem State.withRes_err : (s.withRes i v).err = s.err := rfl
@[simp] theorem State.withRes_lc : (s.withRes i v).lc = s.lc := rfl
@[simp] theorem State.withRes_dir : (s.withRes i v).dir = s.dir := rfl
@[simp] theorem State.withRes_chan : (s.withRes i v).chan = s.chan := rfl
@[simp] theorem State.withRes_dim : (s.withRes i v).dim = s.dim := rfl
@[simp] theorem State.withRes_brp : (s.withRes i v).brp = s.brp := rfl
@[simp] theorem State.withRes_hdrSize : (s.withRes i v).hdrSize = s.hdrSize := rfl
@[simp] theorem State.withRes_cap : (s.withRes i v).cap = s.cap := rfl
@[simp] theorem State.withRes_maxPkt : (s.withRes i v).maxPkt = s.maxPkt := rfl
@[simp] theorem State.withRes_wIdx : (s.withRes i v).wIdx = s.wIdx := rfl
@[simp] theorem State.withRes_rIdx : (s.withRes i v).rIdx = s.rIdx := rfl
@[simp] theorem State.withRes_wAtC : (s.withRes i v).wAtC = s.wAtC := rfl
@[simp] theorem State.withRes_rAtP : (s.withRes i v).rAtP = s.rAtP := rfl
@[simp] theorem State.withRes_tier : (s.withRes i v).tier = s.tier := rfl
@[simp] theorem State.withRes_opt : (s.withRes i v).opt = s.opt := rfl
@[simp] theorem State.withRes_cpktValid : (s.withRes i v).cpktValid = s.cpktValid := rfl
@[simp] theorem State.withRes_tsValid : (s.withRes i v).tsValid = s.tsValid := rfl
@[simp] theorem State.withRes_sytmonHave : (s.withRes i v).sytmonHave = s.sytmonHave := rfl
@[simp] theorem State.withRes_ctHave : (s.withRes i v).ctHave = s.ctHave := rfl
@[simp] theorem State.withRes_supported : (s.withRes i v).supported = s.supported := rfl
@[simp] theorem State.withRes_txCip : (s.withRes i v).txCip = s.txCip := rfl
@[simp] theorem State.withRes_txIso : (s.withRes i v).txIso = s.txIso := rfl
@[simp] theorem State.withRes_dbcTx : (s.withRes i v).dbcTx = s.dbcTx := rfl
@[simp] theorem State.withRes_isoDbcNext : (s.withRes i v).isoDbcNext = s.isoDbcNext := rfl
@[simp] theorem State.withRes_cpktLen : (s.withRes i v).cpktLen = s.cpktLen := rfl
@[simp] theorem State.withRes_cpktMeta : (s.withRes i v).cpktMeta = s.cpktMeta := rfl
@[simp] theorem State.withRes_cpktCtr : (s.withRes i v).cpktCtr = s.cpktCtr := rfl
@[simp] theorem State.withRes_lastCip0 : (s.withRes i v).lastCip0 = s.lastCip0 := rfl
@[simp] theorem State.withRes_lastCip1 : (s.withRes i v).lastCip1 = s.lastCip1 := rfl
@[simp] theorem State.withRes_lastTs : (s.withRes i v).lastTs = s.lastTs := rfl
@[simp] theorem State.withRes_sytmonLast : (s.withRes i v).sytmonLast = s.sytmonLast := rfl
@[simp] theorem State.withRes_ctLastSec : (s.withRes i v).ctLastSec = s.ctLastSec := rfl
@[simp] theorem State.withRes_ctEpoch : (s.withRes i v).ctEpoch = s.ctEpoch := rfl
@[simp] theorem State.withRes_counters : (s.withRes i v).counters = s.counters := rfl
@[simp] theorem State.withRes_shadows : (s.withRes i v).shadows = s.shadows := rfl
@[simp] theorem State.withRes_ports : (s.withRes i v).ports = s.ports := rfl
@[simp] theorem State.withRes_txb : (s.withRes i v).txb = s.txb := rfl
@[simp] theorem State.withRes_ring : (s.withRes i v).ring = s.ring := rfl
@[simp] theorem State.withRes_slotMeta : (s.withRes i v).slotMeta = s.slotMeta := rfl
@[simp] theorem State.withRes_draw : (s.withRes i v).draw = s.draw := rfl
@[simp] theorem State.withRes_input : (s.withRes i v).input = s.input := rfl
@[simp] theorem State.withRes_resp : (s.withRes i v).resp = s.resp := rfl

end

/-! ### `answer` -/

section
variable (s : State) (r : Response)

@[simp] theorem State.answer_params : (s.answer r).params = s.params := rfl
@[simp] theorem State.answer_arg : (s.answer r).arg = s.arg := rfl
@[simp] theorem State.answer_res : (s.answer r).res = s.res := rfl
@[simp] theorem State.answer_cmd : (s.answer r).cmd = s.cmd := rfl
@[simp] theorem State.answer_err : (s.answer r).err = s.err := rfl
@[simp] theorem State.answer_lc : (s.answer r).lc = s.lc := rfl
@[simp] theorem State.answer_dir : (s.answer r).dir = s.dir := rfl
@[simp] theorem State.answer_chan : (s.answer r).chan = s.chan := rfl
@[simp] theorem State.answer_dim : (s.answer r).dim = s.dim := rfl
@[simp] theorem State.answer_brp : (s.answer r).brp = s.brp := rfl
@[simp] theorem State.answer_hdrSize : (s.answer r).hdrSize = s.hdrSize := rfl
@[simp] theorem State.answer_cap : (s.answer r).cap = s.cap := rfl
@[simp] theorem State.answer_maxPkt : (s.answer r).maxPkt = s.maxPkt := rfl
@[simp] theorem State.answer_wIdx : (s.answer r).wIdx = s.wIdx := rfl
@[simp] theorem State.answer_rIdx : (s.answer r).rIdx = s.rIdx := rfl
@[simp] theorem State.answer_wAtC : (s.answer r).wAtC = s.wAtC := rfl
@[simp] theorem State.answer_rAtP : (s.answer r).rAtP = s.rAtP := rfl
@[simp] theorem State.answer_tier : (s.answer r).tier = s.tier := rfl
@[simp] theorem State.answer_opt : (s.answer r).opt = s.opt := rfl
@[simp] theorem State.answer_cpktValid : (s.answer r).cpktValid = s.cpktValid := rfl
@[simp] theorem State.answer_tsValid : (s.answer r).tsValid = s.tsValid := rfl
@[simp] theorem State.answer_sytmonHave : (s.answer r).sytmonHave = s.sytmonHave := rfl
@[simp] theorem State.answer_ctHave : (s.answer r).ctHave = s.ctHave := rfl
@[simp] theorem State.answer_supported : (s.answer r).supported = s.supported := rfl
@[simp] theorem State.answer_txCip : (s.answer r).txCip = s.txCip := rfl
@[simp] theorem State.answer_txIso : (s.answer r).txIso = s.txIso := rfl
@[simp] theorem State.answer_dbcTx : (s.answer r).dbcTx = s.dbcTx := rfl
@[simp] theorem State.answer_isoDbcNext : (s.answer r).isoDbcNext = s.isoDbcNext := rfl
@[simp] theorem State.answer_cpktLen : (s.answer r).cpktLen = s.cpktLen := rfl
@[simp] theorem State.answer_cpktMeta : (s.answer r).cpktMeta = s.cpktMeta := rfl
@[simp] theorem State.answer_cpktCtr : (s.answer r).cpktCtr = s.cpktCtr := rfl
@[simp] theorem State.answer_lastCip0 : (s.answer r).lastCip0 = s.lastCip0 := rfl
@[simp] theorem State.answer_lastCip1 : (s.answer r).lastCip1 = s.lastCip1 := rfl
@[simp] theorem State.answer_lastTs : (s.answer r).lastTs = s.lastTs := rfl
@[simp] theorem State.answer_sytmonLast : (s.answer r).sytmonLast = s.sytmonLast := rfl
@[simp] theorem State.answer_ctLastSec : (s.answer r).ctLastSec = s.ctLastSec := rfl
@[simp] theorem State.answer_ctEpoch : (s.answer r).ctEpoch = s.ctEpoch := rfl
@[simp] theorem State.answer_counters : (s.answer r).counters = s.counters := rfl
@[simp] theorem State.answer_shadows : (s.answer r).shadows = s.shadows := rfl
@[simp] theorem State.answer_ports : (s.answer r).ports = s.ports := rfl
@[simp] theorem State.answer_txb : (s.answer r).txb = s.txb := rfl
@[simp] theorem State.answer_ring : (s.answer r).ring = s.ring := rfl
@[simp] theorem State.answer_slotMeta : (s.answer r).slotMeta = s.slotMeta := rfl
@[simp] theorem State.answer_draw : (s.answer r).draw = s.draw := rfl
@[simp] theorem State.answer_input : (s.answer r).input = s.input := rfl
@[simp] theorem State.answer_resp : (s.answer r).resp = r := rfl

end

/-! ### `addTo` -/

section
variable (s : State) (k : Counter) (v : Word)

@[simp] theorem State.addTo_params : (s.addTo k v).params = s.params := rfl
@[simp] theorem State.addTo_arg : (s.addTo k v).arg = s.arg := rfl
@[simp] theorem State.addTo_res : (s.addTo k v).res = s.res := rfl
@[simp] theorem State.addTo_cmd : (s.addTo k v).cmd = s.cmd := rfl
@[simp] theorem State.addTo_err : (s.addTo k v).err = s.err := rfl
@[simp] theorem State.addTo_lc : (s.addTo k v).lc = s.lc := rfl
@[simp] theorem State.addTo_dir : (s.addTo k v).dir = s.dir := rfl
@[simp] theorem State.addTo_chan : (s.addTo k v).chan = s.chan := rfl
@[simp] theorem State.addTo_dim : (s.addTo k v).dim = s.dim := rfl
@[simp] theorem State.addTo_brp : (s.addTo k v).brp = s.brp := rfl
@[simp] theorem State.addTo_hdrSize : (s.addTo k v).hdrSize = s.hdrSize := rfl
@[simp] theorem State.addTo_cap : (s.addTo k v).cap = s.cap := rfl
@[simp] theorem State.addTo_maxPkt : (s.addTo k v).maxPkt = s.maxPkt := rfl
@[simp] theorem State.addTo_wIdx : (s.addTo k v).wIdx = s.wIdx := rfl
@[simp] theorem State.addTo_rIdx : (s.addTo k v).rIdx = s.rIdx := rfl
@[simp] theorem State.addTo_wAtC : (s.addTo k v).wAtC = s.wAtC := rfl
@[simp] theorem State.addTo_rAtP : (s.addTo k v).rAtP = s.rAtP := rfl
@[simp] theorem State.addTo_tier : (s.addTo k v).tier = s.tier := rfl
@[simp] theorem State.addTo_opt : (s.addTo k v).opt = s.opt := rfl
@[simp] theorem State.addTo_cpktValid : (s.addTo k v).cpktValid = s.cpktValid := rfl
@[simp] theorem State.addTo_tsValid : (s.addTo k v).tsValid = s.tsValid := rfl
@[simp] theorem State.addTo_sytmonHave : (s.addTo k v).sytmonHave = s.sytmonHave := rfl
@[simp] theorem State.addTo_ctHave : (s.addTo k v).ctHave = s.ctHave := rfl
@[simp] theorem State.addTo_supported : (s.addTo k v).supported = s.supported := rfl
@[simp] theorem State.addTo_txCip : (s.addTo k v).txCip = s.txCip := rfl
@[simp] theorem State.addTo_txIso : (s.addTo k v).txIso = s.txIso := rfl
@[simp] theorem State.addTo_dbcTx : (s.addTo k v).dbcTx = s.dbcTx := rfl
@[simp] theorem State.addTo_isoDbcNext : (s.addTo k v).isoDbcNext = s.isoDbcNext := rfl
@[simp] theorem State.addTo_cpktLen : (s.addTo k v).cpktLen = s.cpktLen := rfl
@[simp] theorem State.addTo_cpktMeta : (s.addTo k v).cpktMeta = s.cpktMeta := rfl
@[simp] theorem State.addTo_cpktCtr : (s.addTo k v).cpktCtr = s.cpktCtr := rfl
@[simp] theorem State.addTo_lastCip0 : (s.addTo k v).lastCip0 = s.lastCip0 := rfl
@[simp] theorem State.addTo_lastCip1 : (s.addTo k v).lastCip1 = s.lastCip1 := rfl
@[simp] theorem State.addTo_lastTs : (s.addTo k v).lastTs = s.lastTs := rfl
@[simp] theorem State.addTo_sytmonLast : (s.addTo k v).sytmonLast = s.sytmonLast := rfl
@[simp] theorem State.addTo_ctLastSec : (s.addTo k v).ctLastSec = s.ctLastSec := rfl
@[simp] theorem State.addTo_ctEpoch : (s.addTo k v).ctEpoch = s.ctEpoch := rfl
@[simp] theorem State.addTo_counters : (s.addTo k v).counters = s.counters.add k v := rfl
@[simp] theorem State.addTo_shadows : (s.addTo k v).shadows = s.shadows := rfl
@[simp] theorem State.addTo_ports : (s.addTo k v).ports = s.ports := rfl
@[simp] theorem State.addTo_txb : (s.addTo k v).txb = s.txb := rfl
@[simp] theorem State.addTo_ring : (s.addTo k v).ring = s.ring := rfl
@[simp] theorem State.addTo_slotMeta : (s.addTo k v).slotMeta = s.slotMeta := rfl
@[simp] theorem State.addTo_draw : (s.addTo k v).draw = s.draw := rfl
@[simp] theorem State.addTo_input : (s.addTo k v).input = s.input := rfl
@[simp] theorem State.addTo_resp : (s.addTo k v).resp = s.resp := rfl

end

/-! ### `count` -/

section
variable (s : State) (k : Counter)

@[simp] theorem State.count_params : (s.count k).params = s.params := rfl
@[simp] theorem State.count_arg : (s.count k).arg = s.arg := rfl
@[simp] theorem State.count_res : (s.count k).res = s.res := rfl
@[simp] theorem State.count_cmd : (s.count k).cmd = s.cmd := rfl
@[simp] theorem State.count_err : (s.count k).err = s.err := rfl
@[simp] theorem State.count_lc : (s.count k).lc = s.lc := rfl
@[simp] theorem State.count_dir : (s.count k).dir = s.dir := rfl
@[simp] theorem State.count_chan : (s.count k).chan = s.chan := rfl
@[simp] theorem State.count_dim : (s.count k).dim = s.dim := rfl
@[simp] theorem State.count_brp : (s.count k).brp = s.brp := rfl
@[simp] theorem State.count_hdrSize : (s.count k).hdrSize = s.hdrSize := rfl
@[simp] theorem State.count_cap : (s.count k).cap = s.cap := rfl
@[simp] theorem State.count_maxPkt : (s.count k).maxPkt = s.maxPkt := rfl
@[simp] theorem State.count_wIdx : (s.count k).wIdx = s.wIdx := rfl
@[simp] theorem State.count_rIdx : (s.count k).rIdx = s.rIdx := rfl
@[simp] theorem State.count_wAtC : (s.count k).wAtC = s.wAtC := rfl
@[simp] theorem State.count_rAtP : (s.count k).rAtP = s.rAtP := rfl
@[simp] theorem State.count_tier : (s.count k).tier = s.tier := rfl
@[simp] theorem State.count_opt : (s.count k).opt = s.opt := rfl
@[simp] theorem State.count_cpktValid : (s.count k).cpktValid = s.cpktValid := rfl
@[simp] theorem State.count_tsValid : (s.count k).tsValid = s.tsValid := rfl
@[simp] theorem State.count_sytmonHave : (s.count k).sytmonHave = s.sytmonHave := rfl
@[simp] theorem State.count_ctHave : (s.count k).ctHave = s.ctHave := rfl
@[simp] theorem State.count_supported : (s.count k).supported = s.supported := rfl
@[simp] theorem State.count_txCip : (s.count k).txCip = s.txCip := rfl
@[simp] theorem State.count_txIso : (s.count k).txIso = s.txIso := rfl
@[simp] theorem State.count_dbcTx : (s.count k).dbcTx = s.dbcTx := rfl
@[simp] theorem State.count_isoDbcNext : (s.count k).isoDbcNext = s.isoDbcNext := rfl
@[simp] theorem State.count_cpktLen : (s.count k).cpktLen = s.cpktLen := rfl
@[simp] theorem State.count_cpktMeta : (s.count k).cpktMeta = s.cpktMeta := rfl
@[simp] theorem State.count_cpktCtr : (s.count k).cpktCtr = s.cpktCtr := rfl
@[simp] theorem State.count_lastCip0 : (s.count k).lastCip0 = s.lastCip0 := rfl
@[simp] theorem State.count_lastCip1 : (s.count k).lastCip1 = s.lastCip1 := rfl
@[simp] theorem State.count_lastTs : (s.count k).lastTs = s.lastTs := rfl
@[simp] theorem State.count_sytmonLast : (s.count k).sytmonLast = s.sytmonLast := rfl
@[simp] theorem State.count_ctLastSec : (s.count k).ctLastSec = s.ctLastSec := rfl
@[simp] theorem State.count_ctEpoch : (s.count k).ctEpoch = s.ctEpoch := rfl
@[simp] theorem State.count_counters : (s.count k).counters = s.counters.add k 1 := rfl
@[simp] theorem State.count_shadows : (s.count k).shadows = s.shadows := rfl
@[simp] theorem State.count_ports : (s.count k).ports = s.ports := rfl
@[simp] theorem State.count_txb : (s.count k).txb = s.txb := rfl
@[simp] theorem State.count_ring : (s.count k).ring = s.ring := rfl
@[simp] theorem State.count_slotMeta : (s.count k).slotMeta = s.slotMeta := rfl
@[simp] theorem State.count_draw : (s.count k).draw = s.draw := rfl
@[simp] theorem State.count_input : (s.count k).input = s.input := rfl
@[simp] theorem State.count_resp : (s.count k).resp = s.resp := rfl

end

/-! ### `writeTxb` -/

section
variable (s : State) (a : Nat) (bs : List Byte)

@[simp] theorem State.writeTxb_params : (s.writeTxb a bs).params = s.params := rfl
@[simp] theorem State.writeTxb_arg : (s.writeTxb a bs).arg = s.arg := rfl
@[simp] theorem State.writeTxb_res : (s.writeTxb a bs).res = s.res := rfl
@[simp] theorem State.writeTxb_cmd : (s.writeTxb a bs).cmd = s.cmd := rfl
@[simp] theorem State.writeTxb_err : (s.writeTxb a bs).err = s.err := rfl
@[simp] theorem State.writeTxb_lc : (s.writeTxb a bs).lc = s.lc := rfl
@[simp] theorem State.writeTxb_dir : (s.writeTxb a bs).dir = s.dir := rfl
@[simp] theorem State.writeTxb_chan : (s.writeTxb a bs).chan = s.chan := rfl
@[simp] theorem State.writeTxb_dim : (s.writeTxb a bs).dim = s.dim := rfl
@[simp] theorem State.writeTxb_brp : (s.writeTxb a bs).brp = s.brp := rfl
@[simp] theorem State.writeTxb_hdrSize : (s.writeTxb a bs).hdrSize = s.hdrSize := rfl
@[simp] theorem State.writeTxb_cap : (s.writeTxb a bs).cap = s.cap := rfl
@[simp] theorem State.writeTxb_maxPkt : (s.writeTxb a bs).maxPkt = s.maxPkt := rfl
@[simp] theorem State.writeTxb_wIdx : (s.writeTxb a bs).wIdx = s.wIdx := rfl
@[simp] theorem State.writeTxb_rIdx : (s.writeTxb a bs).rIdx = s.rIdx := rfl
@[simp] theorem State.writeTxb_wAtC : (s.writeTxb a bs).wAtC = s.wAtC := rfl
@[simp] theorem State.writeTxb_rAtP : (s.writeTxb a bs).rAtP = s.rAtP := rfl
@[simp] theorem State.writeTxb_tier : (s.writeTxb a bs).tier = s.tier := rfl
@[simp] theorem State.writeTxb_opt : (s.writeTxb a bs).opt = s.opt := rfl
@[simp] theorem State.writeTxb_cpktValid : (s.writeTxb a bs).cpktValid = s.cpktValid := rfl
@[simp] theorem State.writeTxb_tsValid : (s.writeTxb a bs).tsValid = s.tsValid := rfl
@[simp] theorem State.writeTxb_sytmonHave : (s.writeTxb a bs).sytmonHave = s.sytmonHave := rfl
@[simp] theorem State.writeTxb_ctHave : (s.writeTxb a bs).ctHave = s.ctHave := rfl
@[simp] theorem State.writeTxb_supported : (s.writeTxb a bs).supported = s.supported := rfl
@[simp] theorem State.writeTxb_txCip : (s.writeTxb a bs).txCip = s.txCip := rfl
@[simp] theorem State.writeTxb_txIso : (s.writeTxb a bs).txIso = s.txIso := rfl
@[simp] theorem State.writeTxb_dbcTx : (s.writeTxb a bs).dbcTx = s.dbcTx := rfl
@[simp] theorem State.writeTxb_isoDbcNext : (s.writeTxb a bs).isoDbcNext = s.isoDbcNext := rfl
@[simp] theorem State.writeTxb_cpktLen : (s.writeTxb a bs).cpktLen = s.cpktLen := rfl
@[simp] theorem State.writeTxb_cpktMeta : (s.writeTxb a bs).cpktMeta = s.cpktMeta := rfl
@[simp] theorem State.writeTxb_cpktCtr : (s.writeTxb a bs).cpktCtr = s.cpktCtr := rfl
@[simp] theorem State.writeTxb_lastCip0 : (s.writeTxb a bs).lastCip0 = s.lastCip0 := rfl
@[simp] theorem State.writeTxb_lastCip1 : (s.writeTxb a bs).lastCip1 = s.lastCip1 := rfl
@[simp] theorem State.writeTxb_lastTs : (s.writeTxb a bs).lastTs = s.lastTs := rfl
@[simp] theorem State.writeTxb_sytmonLast : (s.writeTxb a bs).sytmonLast = s.sytmonLast := rfl
@[simp] theorem State.writeTxb_ctLastSec : (s.writeTxb a bs).ctLastSec = s.ctLastSec := rfl
@[simp] theorem State.writeTxb_ctEpoch : (s.writeTxb a bs).ctEpoch = s.ctEpoch := rfl
@[simp] theorem State.writeTxb_counters : (s.writeTxb a bs).counters = s.counters := rfl
@[simp] theorem State.writeTxb_shadows : (s.writeTxb a bs).shadows = s.shadows := rfl
@[simp] theorem State.writeTxb_ports : (s.writeTxb a bs).ports = s.ports := rfl
@[simp] theorem State.writeTxb_txb : (s.writeTxb a bs).txb = writeBytes s.txb a bs := rfl
@[simp] theorem State.writeTxb_ring : (s.writeTxb a bs).ring = s.ring := rfl
@[simp] theorem State.writeTxb_slotMeta : (s.writeTxb a bs).slotMeta = s.slotMeta := rfl
@[simp] theorem State.writeTxb_draw : (s.writeTxb a bs).draw = s.draw := rfl
@[simp] theorem State.writeTxb_input : (s.writeTxb a bs).input = s.input := rfl
@[simp] theorem State.writeTxb_resp : (s.writeTxb a bs).resp = s.resp := rfl

end

/-! ### `setPort` -/

section
variable (s : State) (p : Fin 64) (q : Port)

@[simp] theorem State.setPort_params : (s.setPort p q).params = s.params := rfl
@[simp] theorem State.setPort_arg : (s.setPort p q).arg = s.arg := rfl
@[simp] theorem State.setPort_res : (s.setPort p q).res = s.res := rfl
@[simp] theorem State.setPort_cmd : (s.setPort p q).cmd = s.cmd := rfl
@[simp] theorem State.setPort_err : (s.setPort p q).err = s.err := rfl
@[simp] theorem State.setPort_lc : (s.setPort p q).lc = s.lc := rfl
@[simp] theorem State.setPort_dir : (s.setPort p q).dir = s.dir := rfl
@[simp] theorem State.setPort_chan : (s.setPort p q).chan = s.chan := rfl
@[simp] theorem State.setPort_dim : (s.setPort p q).dim = s.dim := rfl
@[simp] theorem State.setPort_brp : (s.setPort p q).brp = s.brp := rfl
@[simp] theorem State.setPort_hdrSize : (s.setPort p q).hdrSize = s.hdrSize := rfl
@[simp] theorem State.setPort_cap : (s.setPort p q).cap = s.cap := rfl
@[simp] theorem State.setPort_maxPkt : (s.setPort p q).maxPkt = s.maxPkt := rfl
@[simp] theorem State.setPort_wIdx : (s.setPort p q).wIdx = s.wIdx := rfl
@[simp] theorem State.setPort_rIdx : (s.setPort p q).rIdx = s.rIdx := rfl
@[simp] theorem State.setPort_wAtC : (s.setPort p q).wAtC = s.wAtC := rfl
@[simp] theorem State.setPort_rAtP : (s.setPort p q).rAtP = s.rAtP := rfl
@[simp] theorem State.setPort_tier : (s.setPort p q).tier = s.tier := rfl
@[simp] theorem State.setPort_opt : (s.setPort p q).opt = s.opt := rfl
@[simp] theorem State.setPort_cpktValid : (s.setPort p q).cpktValid = s.cpktValid := rfl
@[simp] theorem State.setPort_tsValid : (s.setPort p q).tsValid = s.tsValid := rfl
@[simp] theorem State.setPort_sytmonHave : (s.setPort p q).sytmonHave = s.sytmonHave := rfl
@[simp] theorem State.setPort_ctHave : (s.setPort p q).ctHave = s.ctHave := rfl
@[simp] theorem State.setPort_supported : (s.setPort p q).supported = s.supported := rfl
@[simp] theorem State.setPort_txCip : (s.setPort p q).txCip = s.txCip := rfl
@[simp] theorem State.setPort_txIso : (s.setPort p q).txIso = s.txIso := rfl
@[simp] theorem State.setPort_dbcTx : (s.setPort p q).dbcTx = s.dbcTx := rfl
@[simp] theorem State.setPort_isoDbcNext : (s.setPort p q).isoDbcNext = s.isoDbcNext := rfl
@[simp] theorem State.setPort_cpktLen : (s.setPort p q).cpktLen = s.cpktLen := rfl
@[simp] theorem State.setPort_cpktMeta : (s.setPort p q).cpktMeta = s.cpktMeta := rfl
@[simp] theorem State.setPort_cpktCtr : (s.setPort p q).cpktCtr = s.cpktCtr := rfl
@[simp] theorem State.setPort_lastCip0 : (s.setPort p q).lastCip0 = s.lastCip0 := rfl
@[simp] theorem State.setPort_lastCip1 : (s.setPort p q).lastCip1 = s.lastCip1 := rfl
@[simp] theorem State.setPort_lastTs : (s.setPort p q).lastTs = s.lastTs := rfl
@[simp] theorem State.setPort_sytmonLast : (s.setPort p q).sytmonLast = s.sytmonLast := rfl
@[simp] theorem State.setPort_ctLastSec : (s.setPort p q).ctLastSec = s.ctLastSec := rfl
@[simp] theorem State.setPort_ctEpoch : (s.setPort p q).ctEpoch = s.ctEpoch := rfl
@[simp] theorem State.setPort_counters : (s.setPort p q).counters = s.counters := rfl
@[simp] theorem State.setPort_shadows : (s.setPort p q).shadows = s.shadows := rfl
@[simp] theorem State.setPort_ports : (s.setPort p q).ports = s.ports.set p.val q p.isLt := rfl
@[simp] theorem State.setPort_txb : (s.setPort p q).txb = s.txb := rfl
@[simp] theorem State.setPort_ring : (s.setPort p q).ring = s.ring := rfl
@[simp] theorem State.setPort_slotMeta : (s.setPort p q).slotMeta = s.slotMeta := rfl
@[simp] theorem State.setPort_draw : (s.setPort p q).draw = s.draw := rfl
@[simp] theorem State.setPort_input : (s.setPort p q).input = s.input := rfl
@[simp] theorem State.setPort_resp : (s.setPort p q).resp = s.resp := rfl

/-- The ports after one of them is set. -/
theorem State.setPort_port (r : Fin 64) : (s.setPort p q).ports[r] = if p = r then q else s.ports[r] := by
  simp [Vector.getElem_set, Fin.ext_iff]

end

/-! ### `clearPorts` -/

section
variable (s : State)

@[simp] theorem State.clearPorts_params : s.clearPorts.params = s.params := rfl
@[simp] theorem State.clearPorts_arg : s.clearPorts.arg = s.arg := rfl
@[simp] theorem State.clearPorts_res : s.clearPorts.res = s.res := rfl
@[simp] theorem State.clearPorts_cmd : s.clearPorts.cmd = s.cmd := rfl
@[simp] theorem State.clearPorts_err : s.clearPorts.err = s.err := rfl
@[simp] theorem State.clearPorts_lc : s.clearPorts.lc = s.lc := rfl
@[simp] theorem State.clearPorts_dir : s.clearPorts.dir = s.dir := rfl
@[simp] theorem State.clearPorts_chan : s.clearPorts.chan = s.chan := rfl
@[simp] theorem State.clearPorts_dim : s.clearPorts.dim = s.dim := rfl
@[simp] theorem State.clearPorts_brp : s.clearPorts.brp = s.brp := rfl
@[simp] theorem State.clearPorts_hdrSize : s.clearPorts.hdrSize = s.hdrSize := rfl
@[simp] theorem State.clearPorts_cap : s.clearPorts.cap = s.cap := rfl
@[simp] theorem State.clearPorts_maxPkt : s.clearPorts.maxPkt = s.maxPkt := rfl
@[simp] theorem State.clearPorts_wIdx : s.clearPorts.wIdx = s.wIdx := rfl
@[simp] theorem State.clearPorts_rIdx : s.clearPorts.rIdx = s.rIdx := rfl
@[simp] theorem State.clearPorts_wAtC : s.clearPorts.wAtC = s.wAtC := rfl
@[simp] theorem State.clearPorts_rAtP : s.clearPorts.rAtP = s.rAtP := rfl
@[simp] theorem State.clearPorts_tier : s.clearPorts.tier = s.tier := rfl
@[simp] theorem State.clearPorts_opt : s.clearPorts.opt = s.opt := rfl
@[simp] theorem State.clearPorts_cpktValid : s.clearPorts.cpktValid = s.cpktValid := rfl
@[simp] theorem State.clearPorts_tsValid : s.clearPorts.tsValid = s.tsValid := rfl
@[simp] theorem State.clearPorts_sytmonHave : s.clearPorts.sytmonHave = s.sytmonHave := rfl
@[simp] theorem State.clearPorts_ctHave : s.clearPorts.ctHave = s.ctHave := rfl
@[simp] theorem State.clearPorts_supported : s.clearPorts.supported = s.supported := rfl
@[simp] theorem State.clearPorts_txCip : s.clearPorts.txCip = s.txCip := rfl
@[simp] theorem State.clearPorts_txIso : s.clearPorts.txIso = s.txIso := rfl
@[simp] theorem State.clearPorts_dbcTx : s.clearPorts.dbcTx = s.dbcTx := rfl
@[simp] theorem State.clearPorts_isoDbcNext : s.clearPorts.isoDbcNext = s.isoDbcNext := rfl
@[simp] theorem State.clearPorts_cpktLen : s.clearPorts.cpktLen = s.cpktLen := rfl
@[simp] theorem State.clearPorts_cpktMeta : s.clearPorts.cpktMeta = s.cpktMeta := rfl
@[simp] theorem State.clearPorts_cpktCtr : s.clearPorts.cpktCtr = s.cpktCtr := rfl
@[simp] theorem State.clearPorts_lastCip0 : s.clearPorts.lastCip0 = s.lastCip0 := rfl
@[simp] theorem State.clearPorts_lastCip1 : s.clearPorts.lastCip1 = s.lastCip1 := rfl
@[simp] theorem State.clearPorts_lastTs : s.clearPorts.lastTs = s.lastTs := rfl
@[simp] theorem State.clearPorts_sytmonLast : s.clearPorts.sytmonLast = s.sytmonLast := rfl
@[simp] theorem State.clearPorts_ctLastSec : s.clearPorts.ctLastSec = s.ctLastSec := rfl
@[simp] theorem State.clearPorts_ctEpoch : s.clearPorts.ctEpoch = s.ctEpoch := rfl
@[simp] theorem State.clearPorts_counters : s.clearPorts.counters = s.counters := rfl
@[simp] theorem State.clearPorts_shadows : s.clearPorts.shadows = s.shadows := rfl
@[simp] theorem State.clearPorts_ports : s.clearPorts.ports = Vector.replicate 64 Port.empty := rfl
@[simp] theorem State.clearPorts_txb : s.clearPorts.txb = s.txb := rfl
@[simp] theorem State.clearPorts_ring : s.clearPorts.ring = s.ring := rfl
@[simp] theorem State.clearPorts_slotMeta : s.clearPorts.slotMeta = s.slotMeta := rfl
@[simp] theorem State.clearPorts_draw : s.clearPorts.draw = s.draw := rfl
@[simp] theorem State.clearPorts_input : s.clearPorts.input = s.input := rfl
@[simp] theorem State.clearPorts_resp : s.clearPorts.resp = s.resp := rfl

end

/-! ### `clearIndices` -/

section
variable (s : State)

@[simp] theorem State.clearIndices_params : s.clearIndices.params = s.params := rfl
@[simp] theorem State.clearIndices_arg : s.clearIndices.arg = s.arg := rfl
@[simp] theorem State.clearIndices_res : s.clearIndices.res = s.res := rfl
@[simp] theorem State.clearIndices_cmd : s.clearIndices.cmd = s.cmd := rfl
@[simp] theorem State.clearIndices_err : s.clearIndices.err = s.err := rfl
@[simp] theorem State.clearIndices_lc : s.clearIndices.lc = s.lc := rfl
@[simp] theorem State.clearIndices_dir : s.clearIndices.dir = s.dir := rfl
@[simp] theorem State.clearIndices_chan : s.clearIndices.chan = s.chan := rfl
@[simp] theorem State.clearIndices_dim : s.clearIndices.dim = s.dim := rfl
@[simp] theorem State.clearIndices_brp : s.clearIndices.brp = s.brp := rfl
@[simp] theorem State.clearIndices_hdrSize : s.clearIndices.hdrSize = s.hdrSize := rfl
@[simp] theorem State.clearIndices_cap : s.clearIndices.cap = s.cap := rfl
@[simp] theorem State.clearIndices_maxPkt : s.clearIndices.maxPkt = s.maxPkt := rfl
@[simp] theorem State.clearIndices_wIdx : s.clearIndices.wIdx = 0 := rfl
@[simp] theorem State.clearIndices_rIdx : s.clearIndices.rIdx = 0 := rfl
@[simp] theorem State.clearIndices_wAtC : s.clearIndices.wAtC = 0 := rfl
@[simp] theorem State.clearIndices_rAtP : s.clearIndices.rAtP = 0 := rfl
@[simp] theorem State.clearIndices_tier : s.clearIndices.tier = s.tier := rfl
@[simp] theorem State.clearIndices_opt : s.clearIndices.opt = s.opt := rfl
@[simp] theorem State.clearIndices_cpktValid : s.clearIndices.cpktValid = s.cpktValid := rfl
@[simp] theorem State.clearIndices_tsValid : s.clearIndices.tsValid = s.tsValid := rfl
@[simp] theorem State.clearIndices_sytmonHave : s.clearIndices.sytmonHave = s.sytmonHave := rfl
@[simp] theorem State.clearIndices_ctHave : s.clearIndices.ctHave = s.ctHave := rfl
@[simp] theorem State.clearIndices_supported : s.clearIndices.supported = s.supported := rfl
@[simp] theorem State.clearIndices_txCip : s.clearIndices.txCip = s.txCip := rfl
@[simp] theorem State.clearIndices_txIso : s.clearIndices.txIso = s.txIso := rfl
@[simp] theorem State.clearIndices_dbcTx : s.clearIndices.dbcTx = s.dbcTx := rfl
@[simp] theorem State.clearIndices_isoDbcNext : s.clearIndices.isoDbcNext = s.isoDbcNext := rfl
@[simp] theorem State.clearIndices_cpktLen : s.clearIndices.cpktLen = s.cpktLen := rfl
@[simp] theorem State.clearIndices_cpktMeta : s.clearIndices.cpktMeta = s.cpktMeta := rfl
@[simp] theorem State.clearIndices_cpktCtr : s.clearIndices.cpktCtr = s.cpktCtr := rfl
@[simp] theorem State.clearIndices_lastCip0 : s.clearIndices.lastCip0 = s.lastCip0 := rfl
@[simp] theorem State.clearIndices_lastCip1 : s.clearIndices.lastCip1 = s.lastCip1 := rfl
@[simp] theorem State.clearIndices_lastTs : s.clearIndices.lastTs = s.lastTs := rfl
@[simp] theorem State.clearIndices_sytmonLast : s.clearIndices.sytmonLast = s.sytmonLast := rfl
@[simp] theorem State.clearIndices_ctLastSec : s.clearIndices.ctLastSec = s.ctLastSec := rfl
@[simp] theorem State.clearIndices_ctEpoch : s.clearIndices.ctEpoch = s.ctEpoch := rfl
@[simp] theorem State.clearIndices_counters : s.clearIndices.counters = s.counters := rfl
@[simp] theorem State.clearIndices_shadows : s.clearIndices.shadows = s.shadows := rfl
@[simp] theorem State.clearIndices_ports : s.clearIndices.ports = s.ports := rfl
@[simp] theorem State.clearIndices_txb : s.clearIndices.txb = s.txb := rfl
@[simp] theorem State.clearIndices_ring : s.clearIndices.ring = s.ring := rfl
@[simp] theorem State.clearIndices_slotMeta : s.clearIndices.slotMeta = s.slotMeta := rfl
@[simp] theorem State.clearIndices_draw : s.clearIndices.draw = s.draw := rfl
@[simp] theorem State.clearIndices_input : s.clearIndices.input = s.input := rfl
@[simp] theorem State.clearIndices_resp : s.clearIndices.resp = s.resp := rfl

end

/-! ### `ringDrop` -/

section
variable (s : State)

@[simp] theorem State.ringDrop_params : s.ringDrop.params = s.params := rfl
@[simp] theorem State.ringDrop_arg : s.ringDrop.arg = s.arg := rfl
@[simp] theorem State.ringDrop_res : s.ringDrop.res = s.res := rfl
@[simp] theorem State.ringDrop_cmd : s.ringDrop.cmd = s.cmd := rfl
@[simp] theorem State.ringDrop_err : s.ringDrop.err = s.err := rfl
@[simp] theorem State.ringDrop_lc : s.ringDrop.lc = s.lc := rfl
@[simp] theorem State.ringDrop_dir : s.ringDrop.dir = s.dir := rfl
@[simp] theorem State.ringDrop_chan : s.ringDrop.chan = s.chan := rfl
@[simp] theorem State.ringDrop_dim : s.ringDrop.dim = s.dim := rfl
@[simp] theorem State.ringDrop_brp : s.ringDrop.brp = s.brp := rfl
@[simp] theorem State.ringDrop_hdrSize : s.ringDrop.hdrSize = s.hdrSize := rfl
@[simp] theorem State.ringDrop_cap : s.ringDrop.cap = s.cap := rfl
@[simp] theorem State.ringDrop_maxPkt : s.ringDrop.maxPkt = s.maxPkt := rfl
@[simp] theorem State.ringDrop_wIdx : s.ringDrop.wIdx = s.wIdx := rfl
@[simp] theorem State.ringDrop_rIdx : s.ringDrop.rIdx = nextIndex s.cap s.rIdx := rfl
@[simp] theorem State.ringDrop_wAtC : s.ringDrop.wAtC = s.wAtC := rfl
@[simp] theorem State.ringDrop_rAtP : s.ringDrop.rAtP = s.rAtP := rfl
@[simp] theorem State.ringDrop_tier : s.ringDrop.tier = s.tier := rfl
@[simp] theorem State.ringDrop_opt : s.ringDrop.opt = s.opt := rfl
@[simp] theorem State.ringDrop_cpktValid : s.ringDrop.cpktValid = s.cpktValid := rfl
@[simp] theorem State.ringDrop_tsValid : s.ringDrop.tsValid = s.tsValid := rfl
@[simp] theorem State.ringDrop_sytmonHave : s.ringDrop.sytmonHave = s.sytmonHave := rfl
@[simp] theorem State.ringDrop_ctHave : s.ringDrop.ctHave = s.ctHave := rfl
@[simp] theorem State.ringDrop_supported : s.ringDrop.supported = s.supported := rfl
@[simp] theorem State.ringDrop_txCip : s.ringDrop.txCip = s.txCip := rfl
@[simp] theorem State.ringDrop_txIso : s.ringDrop.txIso = s.txIso := rfl
@[simp] theorem State.ringDrop_dbcTx : s.ringDrop.dbcTx = s.dbcTx := rfl
@[simp] theorem State.ringDrop_isoDbcNext : s.ringDrop.isoDbcNext = s.isoDbcNext := rfl
@[simp] theorem State.ringDrop_cpktLen : s.ringDrop.cpktLen = s.cpktLen := rfl
@[simp] theorem State.ringDrop_cpktMeta : s.ringDrop.cpktMeta = s.cpktMeta := rfl
@[simp] theorem State.ringDrop_cpktCtr : s.ringDrop.cpktCtr = s.cpktCtr := rfl
@[simp] theorem State.ringDrop_lastCip0 : s.ringDrop.lastCip0 = s.lastCip0 := rfl
@[simp] theorem State.ringDrop_lastCip1 : s.ringDrop.lastCip1 = s.lastCip1 := rfl
@[simp] theorem State.ringDrop_lastTs : s.ringDrop.lastTs = s.lastTs := rfl
@[simp] theorem State.ringDrop_sytmonLast : s.ringDrop.sytmonLast = s.sytmonLast := rfl
@[simp] theorem State.ringDrop_ctLastSec : s.ringDrop.ctLastSec = s.ctLastSec := rfl
@[simp] theorem State.ringDrop_ctEpoch : s.ringDrop.ctEpoch = s.ctEpoch := rfl
@[simp] theorem State.ringDrop_counters : s.ringDrop.counters = s.counters := rfl
@[simp] theorem State.ringDrop_shadows : s.ringDrop.shadows = s.shadows := rfl
@[simp] theorem State.ringDrop_ports : s.ringDrop.ports = s.ports := rfl
@[simp] theorem State.ringDrop_txb : s.ringDrop.txb = s.txb := rfl
@[simp] theorem State.ringDrop_ring : s.ringDrop.ring = s.ring := rfl
@[simp] theorem State.ringDrop_slotMeta : s.ringDrop.slotMeta = s.slotMeta := rfl
@[simp] theorem State.ringDrop_draw : s.ringDrop.draw = s.draw := rfl
@[simp] theorem State.ringDrop_input : s.ringDrop.input = s.input := rfl
@[simp] theorem State.ringDrop_resp : s.ringDrop.resp = s.resp := rfl

end

/-! ### `ringAdd` -/

section
variable (s : State) (b : List Byte) (tag : BitVec 2) (sy : BitVec 4) (cycle : BitVec 13) (ctr : Word)

@[simp] theorem State.ringAdd_params : (s.ringAdd b tag sy cycle ctr).params = s.params := rfl
@[simp] theorem State.ringAdd_arg : (s.ringAdd b tag sy cycle ctr).arg = s.arg := rfl
@[simp] theorem State.ringAdd_res : (s.ringAdd b tag sy cycle ctr).res = s.res := rfl
@[simp] theorem State.ringAdd_cmd : (s.ringAdd b tag sy cycle ctr).cmd = s.cmd := rfl
@[simp] theorem State.ringAdd_err : (s.ringAdd b tag sy cycle ctr).err = s.err := rfl
@[simp] theorem State.ringAdd_lc : (s.ringAdd b tag sy cycle ctr).lc = s.lc := rfl
@[simp] theorem State.ringAdd_dir : (s.ringAdd b tag sy cycle ctr).dir = s.dir := rfl
@[simp] theorem State.ringAdd_chan : (s.ringAdd b tag sy cycle ctr).chan = s.chan := rfl
@[simp] theorem State.ringAdd_dim : (s.ringAdd b tag sy cycle ctr).dim = s.dim := rfl
@[simp] theorem State.ringAdd_brp : (s.ringAdd b tag sy cycle ctr).brp = s.brp := rfl
@[simp] theorem State.ringAdd_hdrSize : (s.ringAdd b tag sy cycle ctr).hdrSize = s.hdrSize := rfl
@[simp] theorem State.ringAdd_cap : (s.ringAdd b tag sy cycle ctr).cap = s.cap := rfl
@[simp] theorem State.ringAdd_maxPkt : (s.ringAdd b tag sy cycle ctr).maxPkt = s.maxPkt := rfl
@[simp] theorem State.ringAdd_wIdx : (s.ringAdd b tag sy cycle ctr).wIdx = nextIndex s.cap s.wIdx := rfl
@[simp] theorem State.ringAdd_rIdx : (s.ringAdd b tag sy cycle ctr).rIdx = s.rIdx := rfl
@[simp] theorem State.ringAdd_wAtC : (s.ringAdd b tag sy cycle ctr).wAtC = s.wAtC := rfl
@[simp] theorem State.ringAdd_rAtP : (s.ringAdd b tag sy cycle ctr).rAtP = s.rAtP := rfl
@[simp] theorem State.ringAdd_tier : (s.ringAdd b tag sy cycle ctr).tier = s.tier := rfl
@[simp] theorem State.ringAdd_opt : (s.ringAdd b tag sy cycle ctr).opt = s.opt := rfl
@[simp] theorem State.ringAdd_cpktValid : (s.ringAdd b tag sy cycle ctr).cpktValid = s.cpktValid := rfl
@[simp] theorem State.ringAdd_tsValid : (s.ringAdd b tag sy cycle ctr).tsValid = s.tsValid := rfl
@[simp] theorem State.ringAdd_sytmonHave : (s.ringAdd b tag sy cycle ctr).sytmonHave = s.sytmonHave := rfl
@[simp] theorem State.ringAdd_ctHave : (s.ringAdd b tag sy cycle ctr).ctHave = s.ctHave := rfl
@[simp] theorem State.ringAdd_supported : (s.ringAdd b tag sy cycle ctr).supported = s.supported := rfl
@[simp] theorem State.ringAdd_txCip : (s.ringAdd b tag sy cycle ctr).txCip = s.txCip := rfl
@[simp] theorem State.ringAdd_txIso : (s.ringAdd b tag sy cycle ctr).txIso = s.txIso := rfl
@[simp] theorem State.ringAdd_dbcTx : (s.ringAdd b tag sy cycle ctr).dbcTx = s.dbcTx := rfl
@[simp] theorem State.ringAdd_isoDbcNext : (s.ringAdd b tag sy cycle ctr).isoDbcNext = s.isoDbcNext := rfl
@[simp] theorem State.ringAdd_cpktLen : (s.ringAdd b tag sy cycle ctr).cpktLen = s.cpktLen := rfl
@[simp] theorem State.ringAdd_cpktMeta : (s.ringAdd b tag sy cycle ctr).cpktMeta = s.cpktMeta := rfl
@[simp] theorem State.ringAdd_cpktCtr : (s.ringAdd b tag sy cycle ctr).cpktCtr = s.cpktCtr := rfl
@[simp] theorem State.ringAdd_lastCip0 : (s.ringAdd b tag sy cycle ctr).lastCip0 = s.lastCip0 := rfl
@[simp] theorem State.ringAdd_lastCip1 : (s.ringAdd b tag sy cycle ctr).lastCip1 = s.lastCip1 := rfl
@[simp] theorem State.ringAdd_lastTs : (s.ringAdd b tag sy cycle ctr).lastTs = s.lastTs := rfl
@[simp] theorem State.ringAdd_sytmonLast : (s.ringAdd b tag sy cycle ctr).sytmonLast = s.sytmonLast := rfl
@[simp] theorem State.ringAdd_ctLastSec : (s.ringAdd b tag sy cycle ctr).ctLastSec = s.ctLastSec := rfl
@[simp] theorem State.ringAdd_ctEpoch : (s.ringAdd b tag sy cycle ctr).ctEpoch = s.ctEpoch := rfl
@[simp] theorem State.ringAdd_counters : (s.ringAdd b tag sy cycle ctr).counters = s.counters := rfl
@[simp] theorem State.ringAdd_shadows : (s.ringAdd b tag sy cycle ctr).shadows = s.shadows := rfl
@[simp] theorem State.ringAdd_ports : (s.ringAdd b tag sy cycle ctr).ports = s.ports := rfl
@[simp] theorem State.ringAdd_txb : (s.ringAdd b tag sy cycle ctr).txb = s.txb := rfl
@[simp] theorem State.ringAdd_ring :
    (s.ringAdd b tag sy cycle ctr).ring = writeBytes s.ring (slot s.cap s.wIdx.toNat * s.maxPkt.toNat) b := rfl
@[simp] theorem State.ringAdd_slotMeta :
    (s.ringAdd b tag sy cycle ctr).slotMeta = insertAt s.slotMeta (slot s.cap s.wIdx.toNat)
      { len := BitVec.ofNat 13 b.length, tag, sy, cycle, ctr } := rfl
@[simp] theorem State.ringAdd_draw : (s.ringAdd b tag sy cycle ctr).draw = s.draw := rfl
@[simp] theorem State.ringAdd_input : (s.ringAdd b tag sy cycle ctr).input = s.input := rfl
@[simp] theorem State.ringAdd_resp : (s.ringAdd b tag sy cycle ctr).resp = s.resp := rfl

end

/-! ### `begin` -/

section
variable (s : State) (rest : List Request)

@[simp] theorem State.begin_params : (s.begin rest).params = s.params := rfl
@[simp] theorem State.begin_arg : (s.begin rest).arg = s.arg := rfl
@[simp] theorem State.begin_res : (s.begin rest).res = s.res := rfl
@[simp] theorem State.begin_cmd : (s.begin rest).cmd = s.cmd := rfl
@[simp] theorem State.begin_err : (s.begin rest).err = s.err := rfl
@[simp] theorem State.begin_lc : (s.begin rest).lc = s.lc := rfl
@[simp] theorem State.begin_dir : (s.begin rest).dir = s.dir := rfl
@[simp] theorem State.begin_chan : (s.begin rest).chan = s.chan := rfl
@[simp] theorem State.begin_dim : (s.begin rest).dim = s.dim := rfl
@[simp] theorem State.begin_brp : (s.begin rest).brp = s.brp := rfl
@[simp] theorem State.begin_hdrSize : (s.begin rest).hdrSize = s.hdrSize := rfl
@[simp] theorem State.begin_cap : (s.begin rest).cap = s.cap := rfl
@[simp] theorem State.begin_maxPkt : (s.begin rest).maxPkt = s.maxPkt := rfl
@[simp] theorem State.begin_wIdx : (s.begin rest).wIdx = s.wIdx := rfl
@[simp] theorem State.begin_rIdx : (s.begin rest).rIdx = s.rIdx := rfl
@[simp] theorem State.begin_wAtC : (s.begin rest).wAtC = s.wAtC := rfl
@[simp] theorem State.begin_rAtP : (s.begin rest).rAtP = s.rAtP := rfl
@[simp] theorem State.begin_tier : (s.begin rest).tier = s.tier := rfl
@[simp] theorem State.begin_opt : (s.begin rest).opt = s.opt := rfl
@[simp] theorem State.begin_cpktValid : (s.begin rest).cpktValid = s.cpktValid := rfl
@[simp] theorem State.begin_tsValid : (s.begin rest).tsValid = s.tsValid := rfl
@[simp] theorem State.begin_sytmonHave : (s.begin rest).sytmonHave = s.sytmonHave := rfl
@[simp] theorem State.begin_ctHave : (s.begin rest).ctHave = s.ctHave := rfl
@[simp] theorem State.begin_supported : (s.begin rest).supported = s.supported := rfl
@[simp] theorem State.begin_txCip : (s.begin rest).txCip = s.txCip := rfl
@[simp] theorem State.begin_txIso : (s.begin rest).txIso = s.txIso := rfl
@[simp] theorem State.begin_dbcTx : (s.begin rest).dbcTx = s.dbcTx := rfl
@[simp] theorem State.begin_isoDbcNext : (s.begin rest).isoDbcNext = s.isoDbcNext := rfl
@[simp] theorem State.begin_cpktLen : (s.begin rest).cpktLen = s.cpktLen := rfl
@[simp] theorem State.begin_cpktMeta : (s.begin rest).cpktMeta = s.cpktMeta := rfl
@[simp] theorem State.begin_cpktCtr : (s.begin rest).cpktCtr = s.cpktCtr := rfl
@[simp] theorem State.begin_lastCip0 : (s.begin rest).lastCip0 = s.lastCip0 := rfl
@[simp] theorem State.begin_lastCip1 : (s.begin rest).lastCip1 = s.lastCip1 := rfl
@[simp] theorem State.begin_lastTs : (s.begin rest).lastTs = s.lastTs := rfl
@[simp] theorem State.begin_sytmonLast : (s.begin rest).sytmonLast = s.sytmonLast := rfl
@[simp] theorem State.begin_ctLastSec : (s.begin rest).ctLastSec = s.ctLastSec := rfl
@[simp] theorem State.begin_ctEpoch : (s.begin rest).ctEpoch = s.ctEpoch := rfl
@[simp] theorem State.begin_counters : (s.begin rest).counters = s.counters := rfl
@[simp] theorem State.begin_shadows : (s.begin rest).shadows = s.shadows := rfl
@[simp] theorem State.begin_ports : (s.begin rest).ports = s.ports := rfl
@[simp] theorem State.begin_txb : (s.begin rest).txb = s.txb := rfl
@[simp] theorem State.begin_ring : (s.begin rest).ring = s.ring := rfl
@[simp] theorem State.begin_slotMeta : (s.begin rest).slotMeta = s.slotMeta := rfl
@[simp] theorem State.begin_draw : (s.begin rest).draw = s.draw + 1 := rfl
@[simp] theorem State.begin_input : (s.begin rest).input = rest := rfl
@[simp] theorem State.begin_resp : (s.begin rest).resp = .none := rfl

end

end Sys2Proof.Machine
end

