-- ==== Sys2Proof/Laws/Ops.lean ====
section
/-! SUPPORT. The laws of the shared operations: sorted memories, byte order, index arithmetic, loops, and the ends of a
host command. -/

namespace Sys2Proof.Machine

/-! ### Memories -/

theorem lookupAt_insertAt {α : Type} (m : List (Nat × α)) (a b : Nat) (v : α) :
    lookupAt (insertAt m a v) b = if b = a then some v else lookupAt m b := by
  induction m with
  | nil => simp [insertAt, lookupAt, eq_comm]
  | cons x m ih =>
    obtain ⟨k, w⟩ := x
    simp only [insertAt]
    by_cases h1 : a < k
    · simp only [if_pos h1, lookupAt, eq_comm (a := a) (b := b)]
    · rw [if_neg h1]
      by_cases h2 : a = k
      · subst h2
        simp only [if_true, lookupAt]
        by_cases h3 : a = b
        · simp [h3]
        · simp [h3, Ne.symm h3]
      · simp only [if_neg h2, lookupAt, ih]
        by_cases h3 : k = b
        · subst h3; simp [Ne.symm h2]
        · simp [h3]

/-- The keys of the list after an insertion are its old keys and the new one. -/
theorem mem_insertAt {α : Type} {m : List (Nat × α)} {a : Nat} {v : α} {x : Nat × α} (h : x ∈ insertAt m a v) :
    x = (a, v) ∨ x ∈ m := by
  induction m with
  | nil => simpa [insertAt] using h
  | cons y m ih =>
    obtain ⟨k, w⟩ := y
    simp only [insertAt] at h
    split at h
    · simpa using h
    · split at h
      · simp only [List.mem_cons] at h ⊢
        tauto
      · simp only [List.mem_cons] at h ⊢
        rcases h with h | h
        · tauto
        · rcases ih h with h | h <;> tauto

/-- A write keeps the canonical form. -/
theorem insertAt_rising {α : Type} {m : List (Nat × α)} (h : risingKeys m) (a : Nat) (v : α) :
    risingKeys (insertAt m a v) := by
  induction m with
  | nil => simp [insertAt, risingKeys]
  | cons x m ih =>
    obtain ⟨k, w⟩ := x
    obtain ⟨hk, hm⟩ := List.pairwise_cons.mp h
    simp only [insertAt]
    split
    · refine List.pairwise_cons.mpr ⟨fun y hy => ?_, h⟩
      rcases List.mem_cons.mp hy with rfl | hy
      · assumption
      · have := hk y hy; simp only at this ⊢; omega
    · split
      · subst_vars; exact List.pairwise_cons.mpr ⟨hk, hm⟩
      · refine List.pairwise_cons.mpr ⟨fun y hy => ?_, ih hm⟩
        rcases mem_insertAt hy with rfl | hy
        · simp only; omega
        · exact hk y hy

theorem writeBytes_rising {m : Memory} (h : m.wf) (a : Nat) (bs : List Byte) : (writeBytes m a bs).wf := by
  induction bs generalizing m a with
  | nil => exact h
  | cons b bs ih => exact ih (insertAt_rising h a b) (a + 1)

/-- Reading one byte after a write of several: inside the written range it is the byte written, elsewhere what stood
there before. -/
theorem lookupAt_writeBytes (m : Memory) (a : Nat) (bs : List Byte) (b : Nat) :
    lookupAt (writeBytes m a bs) b = if a ≤ b ∧ b < a + bs.length then bs[b - a]? else lookupAt m b := by
  induction bs generalizing m a with
  | nil => rw [if_neg (by simp)]; rfl
  | cons x bs ih =>
    simp only [writeBytes, ih, lookupAt_insertAt, List.length_cons]
    by_cases h1 : a + 1 ≤ b ∧ b < a + 1 + bs.length
    · rw [if_pos h1, if_pos (by omega)]
      obtain ⟨c, rfl⟩ : ∃ c, b = a + 1 + c := ⟨b - (a + 1), by omega⟩
      simp [show a + 1 + c - a = c + 1 by omega]
    · rw [if_neg h1]
      by_cases h2 : b = a
      · subst h2; simp
      · rw [if_neg h2, if_neg (by omega)]

theorem lookupAt_writeBytes_outside (m : Memory) (a : Nat) (bs : List Byte) (b : Nat) (h : b < a ∨ a + bs.length ≤ b) :
    lookupAt (writeBytes m a bs) b = lookupAt m b := by
  rw [lookupAt_writeBytes, if_neg (by omega)]

theorem lookupAt_writeBytes_inside (m : Memory) (a : Nat) (bs : List Byte) (j : Nat) (h : j < bs.length) :
    lookupAt (writeBytes m a bs) (a + j) = some bs[j] := by
  rw [lookupAt_writeBytes, if_pos (by omega)]; simp [h]

/-- A byte that is written stays written. -/
theorem isSome_writeBytes {m : Memory} {b : Nat} (h : (lookupAt m b).isSome = true) (a : Nat) (bs : List Byte) :
    (lookupAt (writeBytes m a bs) b).isSome = true := by
  rw [lookupAt_writeBytes]
  split
  · rw [List.getElem?_eq_getElem (by omega)]; rfl
  · exact h

@[simp] theorem State.txbBytes_length (s : State) (a n : Nat) : (s.txbBytes a n).length = n := by
  simp [State.txbBytes]

@[simp] theorem State.ringBytes_length (s : State) (a n : Nat) : (s.ringBytes a n).length = n := by
  simp [State.ringBytes]

@[simp] theorem State.headBytes_length (s : State) : s.headBytes.length = s.headMeta.len.toNat := by
  simp [State.headBytes]

@[simp] theorem putBe32_length (q : Word) : (putBe32 q).length = 4 := rfl

/-- A concatenation as a number: the fields of a word add up. -/
theorem toNat_append_add {n m : Nat} (x : BitVec n) (y : BitVec m) : (x ++ y).toNat = x.toNat * 2 ^ m + y.toNat := by
  rw [BitVec.toNat_append, ← Nat.shiftLeft_add_eq_or_of_lt y.isLt, Nat.shiftLeft_eq]

theorem be32_toNat (b0 b1 b2 b3 : Byte) :
    (be32 b0 b1 b2 b3).toNat = b0.toNat * 2 ^ 24 + b1.toNat * 2 ^ 16 + b2.toNat * 2 ^ 8 + b3.toNat := by
  simp only [be32, toNat_append_add]; omega

theorem be32_putBe32 (q : Word) :
    be32 (q.extractLsb' 24 8) (q.extractLsb' 16 8) (q.extractLsb' 8 8) (q.extractLsb' 0 8) = q := by
  apply BitVec.eq_of_toNat_eq
  have hq := q.isLt
  simp only [be32_toNat, BitVec.extractLsb'_toNat, Nat.shiftRight_eq_div_pow]
  omega

/-! ### Index arithmetic of the ring -/

/-- `fill` of two indices in range is their distance going up from `r` to `w` modulo `2·CAP` (R50). -/
theorem fill_eq {cap w r : BitVec 14} (hw : w.toNat < 2 * cap.toNat) (hr : r.toNat < 2 * cap.toNat) :
    fill cap w r = if r.toNat ≤ w.toNat then w.toNat - r.toNat else w.toNat + 2 * cap.toNat - r.toNat := by
  unfold fill
  split
  · rw [Int.emod_eq_of_lt (by omega) (by omega)]; omega
  · have : ((w.toNat : Int) - r.toNat) % ((2 * cap.toNat : Nat) : Int) = (w.toNat : Int) - r.toNat + (2 * cap.toNat : Nat) := by
      rw [← Int.add_emod_right]
      exact Int.emod_eq_of_lt (by omega) (by omega)
    rw [this]; omega

theorem fill_lt {cap w r : BitVec 14} (hc : 0 < cap.toNat) : fill cap w r < 2 * cap.toNat := by
  unfold fill
  have := Int.emod_lt_of_pos ((w.toNat : Int) - r.toNat) (show (0 : Int) < ((2 * cap.toNat : Nat) : Int) by omega)
  have := Int.emod_nonneg ((w.toNat : Int) - r.toNat) (show ((2 * cap.toNat : Nat) : Int) ≠ 0 by omega)
  omega

@[simp] theorem fill_self (cap i : BitVec 14) : fill cap i i = 0 := by simp [fill]

/-- The next index, when `2·CAP` fits the index width. -/
theorem nextIndex_toNat {cap i : BitVec 14} (hc : cap.toNat ≤ 8192) (hi : i.toNat < 2 * cap.toNat) :
    (nextIndex cap i).toNat = if i.toNat + 1 = 2 * cap.toNat then 0 else i.toNat + 1 := by
  unfold nextIndex
  rw [BitVec.toNat_ofNat]
  split
  · next h => rw [h]; simp
  · rw [Nat.mod_eq_of_lt (a := i.toNat + 1) (by omega), Nat.mod_eq_of_lt (by omega)]

/-! ### The ends of a host command -/

@[simp] theorem succeeds_next {s t : State} : s.succeeds = .next t ↔ s.raise .ok = t := by
  simp [State.succeeds]

@[simp] theorem fails_next {s t : State} {e : ErrCode} : s.fails e = .next t ↔ s.raise e = t := by
  simp [State.fails]

@[simp] theorem succeeds_fault {s : State} {f : Fault} : s.succeeds ≠ .fault f := by simp [State.succeeds]

@[simp] theorem fails_fault {s : State} {e : ErrCode} {f : Fault} : s.fails e ≠ .fault f := by simp [State.fails]

@[simp] theorem succeeds_refused {s : State} {r : Refusal} : s.succeeds ≠ .refused r := by simp [State.succeeds]

@[simp] theorem fails_refused {s : State} {e : ErrCode} {r : Refusal} : s.fails e ≠ .refused r := by simp [State.fails]

/-! ### Loops -/

theorem foldl_keeps {α β : Type} (P : β → Prop) (f : β → α → β) (hf : ∀ b a, P b → P (f b a)) (l : List α) (b : β)
    (h : P b) : P (l.foldl f b) := by
  induction l generalizing b with
  | nil => exact h
  | cons a l ih => exact ih _ (hf b a h)

/-- What every pass keeps, the loop over the ports keeps. -/
theorem State.forPorts_keeps (P : State → Prop) (f : State → Fin 64 → State) (hf : ∀ t p, P t → P (f t p)) (s : State)
    (h : P s) : P (s.forPorts f) := by
  refine foldl_keeps P _ (fun t p ht => ?_) _ _ h
  split
  · exact hf t p ht
  · exact ht

/-- What every pass keeps, the loop over the data blocks keeps. -/
theorem State.forBlocks_keeps (P : State → Prop) (f : State → Nat → State) (hf : ∀ t k, P t → P (f t k)) (s : State)
    (n : Nat) (h : P s) : P (s.forBlocks n f) :=
  foldl_keeps P f hf _ _ h

/-! ### Operands -/

/-- An operand field is read when no bit outside it is set (R181). -/
theorem State.argField_some {s : State} {i : Fin 8} {n : Nat} {v : BitVec n} (h : s.argField i n = some v) :
    s.arg[i].toNat < 2 ^ n ∧ v = s.arg[i].setWidth n := by
  unfold State.argField at h
  split at h
  · exact ⟨‹_›, by simpa using h.symm⟩
  · cases h

theorem State.argField_of_lt {s : State} {i : Fin 8} {n : Nat} (h : s.arg[i].toNat < 2 ^ n) :
    s.argField i n = some (s.arg[i].setWidth n) := if_pos h

theorem State.argField_of_ge {s : State} {i : Fin 8} {n : Nat} (h : 2 ^ n ≤ s.arg[i].toNat) :
    s.argField i n = none := if_neg (Nat.not_lt.mpr h)

/-- A port operand names an existing port (R181). -/
theorem State.argPort_some {s : State} {p : Fin 64} (h : s.argPort = some p) :
    s.arg[(0 : Fin 8)].toNat = p.val ∧ p.val < s.params.nPorts := by
  unfold State.argPort at h
  split at h
  · next v hv =>
    split at h
    · next hn =>
      obtain ⟨h1, rfl⟩ := State.argField_some hv
      have h2 : (s.arg[(0 : Fin 8)].setWidth 6).toNat = s.arg[(0 : Fin 8)].toNat := by
        rw [BitVec.toNat_setWidth, Nat.mod_eq_of_lt h1]
      cases h
      exact ⟨by simpa using h2.symm, by simpa using hn⟩
    · cases h
  · cases h

/-- A port operand outside the table is refused (R181). -/
theorem State.argPort_none {s : State} (h : 64 ≤ s.arg[0].toNat ∨ s.params.nPorts ≤ s.arg[0].toNat) :
    s.argPort = none := by
  cases hp : s.argPort with
  | none => rfl
  | some p =>
    obtain ⟨h1, h2⟩ := State.argPort_some hp
    have h1 : s.arg[0].toNat = p.val := h1
    omega

theorem State.argPort_of_lt {s : State} (h : ¬(64 ≤ s.arg[0].toNat ∨ s.params.nPorts ≤ s.arg[0].toNat)) :
    s.argPort = some (Fin.ofNat 64 s.arg[0].toNat) := by
  have h0 : s.arg[(0 : Fin 8)].toNat < 2 ^ 6 := by
    change s.arg[0].toNat < 2 ^ 6
    omega
  have h1 : (s.arg[(0 : Fin 8)].setWidth 6).toNat = s.arg[0].toNat := by
    rw [BitVec.toNat_setWidth, Nat.mod_eq_of_lt h0]
    rfl
  rw [State.argPort, State.argField_of_lt h0]
  simp only [h1]
  rw [if_pos (by omega)]
  congr 1

/-- The states in which the ring is not ready (R270). -/
theorem Lifecycle.ringReady_false {l : Lifecycle} : l.ringReady = false ↔ l = .closed ∨ l = .opened := by
  cases l <;> simp [Lifecycle.ringReady]

end Sys2Proof.Machine
end

