-- ==== Sys2Proof/Laws/Meanings.lean ====
section
/-! SUPPORT. What each meaning can do, said once: the cases of its next state. A command either ends with an error code and
only STATUS.ERR (and what its rule lists before the raise) changed, or has its effect. -/

namespace Sys2Proof.Machine

/-- The command was refused with an error and nothing else changed (R450). -/
def refusedAs (s t : State) : Prop := ∃ e, e ≠ ErrCode.ok ∧ t = s.raise e

theorem refusedAs_fails {s t : State} {e : ErrCode} (he : e ≠ .ok) (h : s.fails e = .next t) : refusedAs s t :=
  ⟨e, he, (fails_next.mp h).symm⟩

/-! ### Lifecycle commands -/

theorem execOpenStream_cases {s t : State} (h : execOpenStream s = .next t) :
    refusedAs s t ∨ (s.lc = .closed ∧ ∃ ch d dim, dim ≠ 0 ∧ t = (s.openFor ch d dim).raise .ok) := by
  unfold execOpenStream at h
  split at h
  · exact .inl (refusedAs_fails (by decide) h)
  · split at h
    · split at h
      · exact .inl (refusedAs_fails (by decide) h)
      · exact .inr ⟨by simp_all, _, _, _, ‹_›, (succeeds_next.mp h).symm⟩
    · exact .inl (refusedAs_fails (by decide) h)

theorem execInit_cases {s t : State} (h : execInit s = .next t) :
    refusedAs s t ∨ (s.lc = .opened ∧ t = s.teardown.raise .eResource) ∨
    (s.lc = .opened ∧ ∃ hdr cap maxpkt, s.initArgsLegal hdr cap maxpkt = true ∧
      cap.toNat * maxpkt.toNat ≤ s.params.ramBytes ∧ t = (s.initRing hdr cap maxpkt).raise .ok) := by
  unfold execInit at h
  split at h
  · exact .inl (refusedAs_fails (by decide) h)
  · next hlc =>
    have hlc : s.lc = .opened := by simpa using hlc
    split at h
    · split at h
      · next hl =>
        split at h
        · exact .inr (.inl ⟨hlc, (fails_next.mp h).symm⟩)
        · exact .inr (.inr ⟨hlc, _, _, _, hl, Nat.le_of_not_lt ‹_›, (succeeds_next.mp h).symm⟩)
      · exact .inl (refusedAs_fails (by decide) h)
    · exact .inl (refusedAs_fails (by decide) h)

theorem execStart_cases {s t : State} (h : execStart s = .next t) :
    refusedAs s t ∨ ((s.lc = .ready ∨ s.lc = .stopped) ∧ t = { s with lc := .running }.raise .ok) := by
  unfold execStart at h
  split at h
  · exact .inr ⟨‹_›, (succeeds_next.mp h).symm⟩
  · exact .inl (refusedAs_fails (by decide) h)

theorem execStop_cases {s t : State} (h : execStop s = .next t) :
    refusedAs s t ∨ (s.lc = .running ∧ t = { s with lc := .stopped }.raise .ok) := by
  unfold execStop at h
  split at h
  · exact .inr ⟨‹_›, (succeeds_next.mp h).symm⟩
  · exact .inl (refusedAs_fails (by decide) h)

theorem execClose_cases {s t : State} (h : execClose s = .next t) :
    refusedAs s t ∨ ((s.lc = .opened ∨ s.lc = .ready ∨ s.lc = .stopped) ∧ t = s.teardown.raise .ok) := by
  unfold execClose at h
  split at h
  · exact .inr ⟨‹_›, (succeeds_next.mp h).symm⟩
  · exact .inl (refusedAs_fails (by decide) h)

theorem execResume_cases {s t : State} (h : execResume s = .next t) :
    refusedAs s t ∨ (s.lc ≠ .closed ∧ ∃ ch, t = { s with chan := ch, brp := false }.raise .ok) := by
  unfold execResume at h
  split at h
  · exact .inl (refusedAs_fails (by decide) h)
  · split at h
    · exact .inr ⟨by tauto, _, (succeeds_next.mp h).symm⟩
    · exact .inl (refusedAs_fails (by decide) h)

/-! ### Ring commands -/

theorem execRbAdd_cases {s t : State} (h : execRbAdd s = .next t) :
    refusedAs s t ∨ (s.producerFill = s.cap.toNat ∧ t = (s.count .overflow).raise .eOverflow) ∨
    (s.lc.ringReady = true ∧ s.dir = .tx ∧ s.producerFill ≠ s.cap.toNat ∧ ∃ len : BitVec 13,
      s.hdrSize.toNat ≤ len.toNat ∧ len.toNat ≤ s.maxPkt.toNat ∧
      t = (s.ringAdd (s.txbBytes 0 len.toNat) 0 0 0 0).raise .ok) := by
  unfold execRbAdd at h
  split at h
  · exact .inl (refusedAs_fails (by decide) h)
  · next hc =>
    have hc : s.lc.ringReady = true ∧ s.dir = .tx := by simpa using hc
    split at h
    · exact .inl (refusedAs_fails (by decide) h)
    · split at h
      · exact .inl (refusedAs_fails (by decide) h)
      · split at h
        · exact .inl (refusedAs_fails (by decide) h)
        · split at h
          · exact .inr (.inl ⟨‹_›, (fails_next.mp h).symm⟩)
          · exact .inr (.inr ⟨hc.1, hc.2, ‹_›, _, by omega, by omega, (succeeds_next.mp h).symm⟩)

/-- The state of a successful RB_GET (R272). -/
def State.gotPacket (s : State) : State :=
  (((s.fetchPacket.withRes 0 (s.headMeta.len.setWidth 32)).withRes 1
    (metaWord s.headMeta.tag s.headMeta.sy s.headMeta.cycle)).withRes 2 s.headMeta.ctr).raise .ok

theorem execRbGet_cases {s t : State} (h : execRbGet s = .next t) :
    refusedAs s t ∨ (s.consumerFill = 0 ∧ t = (s.count .underflow).raise .eUnderflow) ∨
    (s.lc.ringReady = true ∧ s.dir = .rx ∧ s.consumerFill ≠ 0 ∧ t = s.gotPacket) := by
  unfold execRbGet at h
  split at h
  · exact .inl (refusedAs_fails (by decide) h)
  · next hc =>
    have hc : s.lc.ringReady = true ∧ s.dir = .rx := by simpa using hc
    split at h
    · exact .inl (refusedAs_fails (by decide) h)
    · split at h
      · exact .inr (.inl ⟨‹_›, (fails_next.mp h).symm⟩)
      · split at h
        · exact .inl (refusedAs_fails (by decide) h)
        · exact .inr (.inr ⟨hc.1, hc.2, ‹_›, (succeeds_next.mp h).symm⟩)

theorem execRbFillPackets_cases {s t : State} (h : execRbFillPackets s = .next t) :
    refusedAs s t ∨ ∃ v, t = (s.withRes 0 v).raise .ok := by
  unfold execRbFillPackets at h
  split at h
  · exact .inr ⟨_, (succeeds_next.mp h).symm⟩
  · exact .inl (refusedAs_fails (by decide) h)

theorem execRbFillPayload_cases {s t : State} (h : execRbFillPayload s = .next t) :
    refusedAs s t ∨ ∃ v, t = (s.withRes 0 v).raise .ok := by
  unfold execRbFillPayload at h
  split at h
  · exact .inr ⟨_, (succeeds_next.mp h).symm⟩
  · exact .inl (refusedAs_fails (by decide) h)

/-! ### Port table and stream processor -/

theorem execSetConfig_cases {s t : State} (h : execSetConfig s = .next t) :
    refusedAs s t ∨ ∃ tier opt, t = { s with tier := tier, opt := opt }.raise .ok := by
  unfold execSetConfig at h
  split at h
  · split at h
    · split at h
      · exact .inr ⟨_, _, (succeeds_next.mp h).symm⟩
      · exact .inl (refusedAs_fails (by decide) h)
    · exact .inl (refusedAs_fails (by decide) h)
  · exact .inl (refusedAs_fails (by decide) h)

/-- The checks 3 to 7 of ADD_PORT (R362). -/
def State.entryAdmitted (s : State) (p : Fin 64) (e : Word) : Prop :=
  e &&& entryMustBeZero = 0 ∧ entryType e ≠ .reserved ∧ entryDir e = s.dir ∧
    (entryType e = .midi → entryWide e = true) ∧ entryOffset e + entryWidth e ≤ 4 * s.dim.toNat ∧
    (s.dir = .tx → s.overlapsOther p e = false)

theorem execAddPort_cases {s t : State} (h : execAddPort s = .next t) :
    refusedAs s t ∨ (s.lc ≠ .closed ∧ ∃ p e, p.val < s.params.nPorts ∧ s.entryAdmitted p e ∧
      t = (s.setPort p { Port.empty with entry := e ||| 1 }).raise .ok) := by
  unfold execAddPort at h
  split at h
  · exact .inl (refusedAs_fails (by decide) h)
  · split at h
    · exact .inl (refusedAs_fails (by decide) h)
    · next p hp =>
      simp only at h
      split at h
      · exact .inl (refusedAs_fails (by decide) h)
      · split at h
        · exact .inl (refusedAs_fails (by decide) h)
        · split at h
          · exact .inl (refusedAs_fails (by decide) h)
          · split at h
            · exact .inl (refusedAs_fails (by decide) h)
            · split at h
              · exact .inl (refusedAs_fails (by decide) h)
              · refine .inr ⟨‹_›, p, s.arg[1], (State.argPort_some hp).2, ?_, (succeeds_next.mp h).symm⟩
                unfold State.entryAdmitted
                refine ⟨by tauto, by tauto, by tauto, ?_, by omega, ?_⟩
                · intro hm; by_contra hw; simp_all
                · intro hd; by_contra hw; simp_all

theorem execRemovePort_cases {s t : State} (h : execRemovePort s = .next t) :
    refusedAs s t ∨ (s.lc ≠ .closed ∧ ∃ p, t = (s.setPort p Port.empty).raise .ok) := by
  unfold execRemovePort at h
  split at h
  · exact .inl (refusedAs_fails (by decide) h)
  · split at h
    · exact .inl (refusedAs_fails (by decide) h)
    · split at h
      · exact .inr ⟨‹_›, _, (succeeds_next.mp h).symm⟩
      · exact .inl (refusedAs_fails (by decide) h)

theorem execPortRead_cases {s t : State} (h : execPortRead s = .next t) :
    refusedAs s t ∨ (s.lc ≠ .closed ∧ ∃ p v rest, isSamplePort .rx s.ports[p].entry = true ∧ s.ports[p].pf = v :: rest ∧
      t = ((s.setPort p { s.ports[p] with pf := rest }).withRes 0 v).raise .ok) := by
  unfold execPortRead at h
  split at h
  · exact .inl (refusedAs_fails (by decide) h)
  · split at h
    · exact .inl (refusedAs_fails (by decide) h)
    · next p hp =>
      simp only at h
      split at h
      · split at h
        · exact .inl (refusedAs_fails (by decide) h)
        · exact .inr ⟨‹_›, p, _, _, ‹_›, ‹_›, (succeeds_next.mp h).symm⟩
      · exact .inl (refusedAs_fails (by decide) h)

theorem execPortWrite_cases {s t : State} (h : execPortWrite s = .next t) :
    refusedAs s t ∨ (s.lc ≠ .closed ∧ ∃ p v, isSamplePort .tx s.ports[p].entry = true ∧
      (entryWide s.ports[p].entry = false → v.extractLsb' 24 8 = 0#8) ∧ s.ports[p].pf.length < s.params.portDepth ∧
      t = (s.setPort p { s.ports[p] with pf := s.ports[p].pf ++ [v] }).raise .ok) := by
  unfold execPortWrite at h
  split at h
  · exact .inl (refusedAs_fails (by decide) h)
  · split at h
    · exact .inl (refusedAs_fails (by decide) h)
    · next p hp =>
      simp only at h
      split at h
      · split at h
        · exact .inl (refusedAs_fails (by decide) h)
        · split at h
          · exact .inl (refusedAs_fails (by decide) h)
          · refine .inr ⟨‹_›, p, s.arg[1], ‹_›, ?_, by omega, (succeeds_next.mp h).symm⟩
            intro hw; by_contra hv; simp_all
      · exact .inl (refusedAs_fails (by decide) h)

theorem execSpDemux_cases {s t : State} (h : execSpDemux s = .next t) :
    refusedAs s t ∨
    (s.lc.ringReady = true ∧ s.dir = .rx ∧ s.cpktValid = true ∧
      ((∃ e, e ≠ ErrCode.ok ∧ (t = { s.count .proto with cpktValid := false }.raise e ∨
        t = { s.parseHeader.count .proto with cpktValid := false }.raise e)) ∨
       ∃ N, 8 + N * (4 * s.dim.toNat) = s.cpktLen.toNat ∧ t = (s.parseHeader.demuxPacket N).raise .ok)) := by
  unfold execSpDemux at h
  split at h
  · exact .inl (refusedAs_fails (by decide) h)
  · next hc =>
    have hc : (s.lc.ringReady = true ∧ s.dir = .rx) ∧ s.cpktValid = true := by simpa using hc
    refine .inr ⟨hc.1.1, hc.1.2, hc.2, ?_⟩
    split at h
    · exact .inl ⟨_, by decide, .inl (fails_next.mp h).symm⟩
    · simp only at h
      split at h
      · exact .inl ⟨_, by decide, .inr (fails_next.mp h).symm⟩
      · split at h
        · exact .inl ⟨_, by decide, .inr (fails_next.mp h).symm⟩
        · next h8 _ hm =>
          refine .inr ⟨_, ?_, (succeeds_next.mp h).symm⟩
          have := Nat.div_add_mod (s.cpktLen.toNat - 8) (4 * s.dim.toNat)
          rw [Nat.mul_comm] at this
          omega

theorem execSpMux_cases {s t : State} (h : execSpMux s = .next t) :
    refusedAs s t ∨ (s.lc.ringReady = true ∧ s.dir = .tx ∧ ∃ (n y : BitVec 16) (v : Word),
      8 + n.toNat * (4 * s.dim.toNat) ≤ s.maxPkt.toNat ∧ t = ((s.muxPacket n.toNat y).withRes 0 v).raise .ok) := by
  unfold execSpMux at h
  split at h
  · exact .inl (refusedAs_fails (by decide) h)
  · next hc =>
    have hc : s.lc.ringReady = true ∧ s.dir = .tx := by simpa using hc
    split at h
    · simp only at h
      split at h
      · exact .inl (refusedAs_fails (by decide) h)
      · exact .inr ⟨hc.1, hc.2, _, _, _, Nat.le_of_not_lt ‹_›, (succeeds_next.mp h).symm⟩
    · exact .inl (refusedAs_fails (by decide) h)

/-! ### MIDI -/

theorem execMidiDecode_cases {s t : State} (h : execMidiDecode s = .next t) :
    refusedAs s t ∨ (s.lc ≠ .closed ∧ ∃ p b v w, p.val < s.params.nPorts ∧ isMidiPort .rx s.ports[p].entry = true ∧
      t = (((s.midiFeed p b).withRes 0 v).withRes 1 w).raise .ok) := by
  unfold execMidiDecode at h
  split at h
  · exact .inl (refusedAs_fails (by decide) h)
  · split at h
    · next p b hp _ =>
      simp only at h
      split at h
      · exact .inr ⟨‹_›, p, b, _, _, (State.argPort_some hp).2, ‹_›, (succeeds_next.mp h).symm⟩
      · exact .inl (refusedAs_fails (by decide) h)
    · exact .inl (refusedAs_fails (by decide) h)

theorem execMidiRead_cases {s t : State} (h : execMidiRead s = .next t) :
    refusedAs s t ∨ (s.lc ≠ .closed ∧ ∃ p m rest, isMidiPort .rx s.ports[p].entry = true ∧ s.ports[p].mq = m :: rest ∧
      t = ((s.setPort p { s.ports[p] with mq := rest }).withRes 0 m).raise .ok) := by
  unfold execMidiRead at h
  split at h
  · exact .inl (refusedAs_fails (by decide) h)
  · split at h
    · exact .inl (refusedAs_fails (by decide) h)
    · next p hp =>
      simp only at h
      split at h
      · split at h
        · exact .inl (refusedAs_fails (by decide) h)
        · exact .inr ⟨‹_›, p, _, _, ‹_›, ‹_›, (succeeds_next.mp h).symm⟩
      · exact .inl (refusedAs_fails (by decide) h)

theorem execMidiEncode_cases {s t : State} (h : execMidiEncode s = .next t) :
    refusedAs s t ∨ (s.lc ≠ .closed ∧ ∃ p m, isMidiPort .tx s.ports[p].entry = true ∧ midiWordLegal m = true ∧
      s.ports[p].eq.length + midiLen m ≤ s.params.midiTxDepth ∧
      t = (s.setPort p { s.ports[p] with eq := s.ports[p].eq ++ midiBytes m }).raise .ok) := by
  unfold execMidiEncode at h
  split at h
  · exact .inl (refusedAs_fails (by decide) h)
  · split at h
    · exact .inl (refusedAs_fails (by decide) h)
    · next p hp =>
      simp only at h
      split at h
      · split at h
        · split at h
          · exact .inl (refusedAs_fails (by decide) h)
          · exact .inr ⟨‹_›, p, s.arg[1], ‹_›, ‹_›, by omega, (succeeds_next.mp h).symm⟩
        · exact .inl (refusedAs_fails (by decide) h)
      · exact .inl (refusedAs_fails (by decide) h)

/-! ### Cycle timer -/

/-- `t` is `s` but for RES and STATUS.ERR. -/
def sameButResults (s t : State) : Prop := t = { s with res := t.res, err := .ok }

theorem execCtTicksToCycles_cases {s t : State} (h : execCtTicksToCycles s = .next t) : sameButResults s t := by
  unfold execCtTicksToCycles at h
  rw [← succeeds_next.mp h]; rfl

theorem execCtCyclesToTicks_cases {s t : State} (h : execCtCyclesToTicks s = .next t) :
    refusedAs s t ∨ sameButResults s t := by
  unfold execCtCyclesToTicks at h
  split at h
  · exact .inl (refusedAs_fails (by decide) h)
  · rw [← succeeds_next.mp h]; exact .inr rfl

theorem execCtReconstruct_cases {s t : State} (h : execCtReconstruct s = .next t) :
    refusedAs s t ∨ sameButResults s t := by
  unfold execCtReconstruct at h
  split at h
  · simp only at h
    split at h
    · split at h
      · rw [← succeeds_next.mp h]; exact .inr rfl
      · exact .inl (refusedAs_fails (by decide) h)
    · exact .inl (refusedAs_fails (by decide) h)
  · exact .inl (refusedAs_fails (by decide) h)

theorem execCtToTicks_cases {s t : State} (h : execCtToTicks s = .next t) :
    refusedAs s t ∨ ∃ c, sameButResults (s.extendTicks c) t := by
  unfold execCtToTicks at h
  simp only at h
  split at h
  · rw [← succeeds_next.mp h]; exact .inr ⟨_, rfl⟩
  · exact .inl (refusedAs_fails (by decide) h)

theorem execCtFromTicks_cases {s t : State} (h : execCtFromTicks s = .next t) : sameButResults s t := by
  unfold execCtFromTicks at h
  rw [← succeeds_next.mp h]; rfl

theorem execCtSytCheck_cases {s t : State} (h : execCtSytCheck s = .next t) :
    refusedAs s t ∨ ∃ y ts, sameButResults (s.sytCheck y ts) t := by
  unfold execCtSytCheck at h
  split at h
  · rw [← succeeds_next.mp h]; exact .inr ⟨_, _, rfl⟩
  · exact .inl (refusedAs_fails (by decide) h)

/-! ### ISO transactions -/

/-- What an enabled ISO_PUT does to the state besides counting `dropped` and answering (R310). -/
theorem State.receive_cases (s : State) (data : List Byte) (channel : BitVec 6) (tag : BitVec 2) (sy : BitVec 4)
    (cycle : BitVec 13) (ctr : Word) :
    s.receive data channel tag sy cycle ctr = s.count .isoProto ∨
    (s.producerFill = s.cap.toNat ∧ s.receive data channel tag sy cycle ctr = s.count .overflow) ∨
    (channel = s.chan ∧ s.hdrSize.toNat ≤ data.length ∧ data.length ≤ s.maxPkt.toNat ∧ s.producerFill ≠ s.cap.toNat ∧
      s.receive data channel tag sy cycle ctr = s.ringAdd data tag sy cycle ctr) := by
  unfold State.receive
  split
  · exact .inl rfl
  · split
    · exact .inl rfl
    · split
      · exact .inr (.inl ⟨‹_›, rfl⟩)
      · exact .inr (.inr ⟨by simpa using ‹¬channel ≠ s.chan›, by omega, by omega, ‹_›, rfl⟩)

theorem execIsoPut_cases {s t : State} {data : List Byte} {channel : BitVec 6} {tag : BitVec 2} {sy : BitVec 4}
    {cycle : BitVec 13} {dropped ctr : Word} (h : execIsoPut data channel tag sy cycle dropped ctr s = .next t) :
    t = s.answer .notEnabled ∨
    (s.putEnabled = true ∧
      t = ((s.addTo .llDropped dropped).receive data channel tag sy cycle ctr).answer (.isoPut .ok)) := by
  unfold execIsoPut at h
  split at h
  · exact .inr ⟨‹_›, by simpa using h.symm⟩
  · exact .inl (by simpa using h.symm)

/-- What an enabled ISO_GET does to the state besides counting `dropped` and answering (R311). -/
theorem State.transmit_cases (s : State) (maxLength : Nat) :
    (s.consumerFill = 0 ∧ s.transmit maxLength = (s.count .underflow, s.noData)) ∨
    (s.consumerFill ≠ 0 ∧ s.transmit maxLength = (s.ringDrop.count .isoProto, s.noData)) ∨
    (s.consumerFill ≠ 0 ∧ 8 ≤ s.headMeta.len.toNat ∧ s.headMeta.len.toNat ≤ maxLength ∧
      s.transmit maxLength = ({ s.ringDrop with isoDbcNext := s.dbcAfter s.headBytes }, s.headBytes)) := by
  unfold State.transmit
  split
  · exact .inl ⟨‹_›, rfl⟩
  · split
    · exact .inr (.inl ⟨‹_›, rfl⟩)
    · exact .inr (.inr ⟨‹_›, by omega, by omega, rfl⟩)

theorem execIsoGet_cases {s t : State} {cycle : BitVec 13} {dropped : Word} {maxLength : BitVec 16}
    (h : execIsoGet cycle dropped maxLength s = .next t) :
    t = s.answer .notEnabled ∨
    (s.getEnabled = true ∧ 8 ≤ maxLength.toNat ∧
      ∃ r, t = ((s.addTo .llDropped dropped).transmit maxLength.toNat).1.answer r) := by
  unfold execIsoGet at h
  split at h
  · split at h
    · cases h
    · exact .inr ⟨‹_›, by omega, _, by simpa using h.symm⟩
  · exact .inl (by simpa using h.symm)

theorem execIsoBusReset_cases {s t : State} (h : execIsoBusReset s = .next t) :
    t = s.answer .none ∨ (s.lc ≠ .closed ∧ t = ({ s with brp := true }.count .busReset).answer .none) := by
  unfold execIsoBusReset at h
  split at h
  · exact .inl (by simpa using h.symm)
  · exact .inr ⟨‹_›, by simpa using h.symm⟩

/-! ### Requests -/

/-- One step, said once: nothing is pending and the state stays, or the next request is performed. -/
theorem step_cases {s t : State} (h : step s = .next t) :
    (s.input = [] ∧ t = s) ∨ ∃ q rest, s.input = q :: rest ∧ (s.begin rest).perform q = .next t := by
  unfold step at h
  split at h
  · exact .inl ⟨‹_›, by simpa using h.symm⟩
  · exact .inr ⟨_, _, ‹_›, h⟩

/-- A host write that is performed: a command, or one register changed (R53, R131). -/
theorem State.hostWrite_cases {s t : State} {bits off : Nat} {v : Word}
    (h : s.hostWrite bits off v = .next t) :
    t = s.answer .busError ∨
    (∃ i, decodeCmd v = .ok i ∧ exec i ({ s with cmd := v }.answer .written) = .next t) ∨
    t = ({ s with cmd := v }.answer .written).raise .eOpcode ∨
    ∃ r u, csrAt s.params off = some r ∧ s.writeCsr r v = some u ∧ t = u.answer .written := by
  unfold State.hostWrite at h
  split at h
  · exact .inl (by simpa using h.symm)
  · split at h
    · exact .inl (by simpa using h.symm)
    · unfold State.writeCmd at h
      simp only at h
      split at h
      · exact .inr (.inl ⟨_, ‹_›, h⟩)
      · exact .inr (.inr (.inl (fails_next.mp h).symm))
    · split at h
      · exact .inr (.inr (.inr ⟨_, _, ‹_›, ‹_›, by simpa using h.symm⟩))
      · exact .inl (by simpa using h.symm)

/-- What a host write to a register other than CMD changes (R52, R55, R56, R57). -/
theorem State.writeCsr_cases {s t : State} {r : Csr} {v : Word} (h : s.writeCsr r v = some t) :
    (∃ a, t = { s with arg := a }) ∨ (v &&& supportedReserved = 0 ∧ t = { s with supported := v }) ∨
    (v &&& txCipReserved = 0 ∧ s.lc ≠ .running ∧ t = { s with txCip := v }) ∨
    (v &&& txIsoReserved = 0 ∧ s.lc ≠ .running ∧ t = { s with txIso := v }) ∨
    ∃ a, r = .txb a ∧ t = s.writeTxb a (putBe32 v) := by
  unfold State.writeCsr at h
  split at h
  · exact .inl ⟨_, by simpa using h.symm⟩
  · split at h
    · exact .inr (.inl ⟨‹_›, by simpa using h.symm⟩)
    · cases h
  · split at h
    · next hc => exact .inr (.inr (.inl ⟨hc.1, hc.2, by simpa using h.symm⟩))
    · cases h
  · split at h
    · next hc => exact .inr (.inr (.inr (.inl ⟨hc.1, hc.2, by simpa using h.symm⟩)))
    · cases h
  · exact .inr (.inr (.inr (.inr ⟨_, rfl, by simpa using h.symm⟩)))
  · cases h

theorem State.hostRead_cases (s : State) (bits off : Nat) :
    ∃ r, s.hostRead bits off = s.answer r := by
  unfold State.hostRead
  split
  · exact ⟨_, rfl⟩
  · split <;> exact ⟨_, rfl⟩

theorem State.isoTransaction_cases {s t : State} {r : IsoRecord} (h : s.isoTransaction r = .next t) :
    ∃ i, decodeIso r = .ok i ∧ exec i s = .next t := by
  unfold State.isoTransaction at h
  split at h
  · exact ⟨_, ‹_›, h⟩
  · cases h
  · cases h

end Sys2Proof.Machine
end

