-- ==== Sys2Proof/Laws/Frames.lean ====
section
/-! SUPPORT. Frames of the shared operations of the stream processor: what the loops of SP_DEMUX and SP_MUX, the MIDI
decoder and the SYT monitor leave unchanged. -/

namespace Sys2Proof.Machine

/-! ### SP_DEMUX and MIDI: only port queues and counters -/

theorem sameButPorts.refl (s : State) : sameButPorts s s := rfl

theorem sameButPorts.trans {s t u : State} (h : sameButPorts s t) (k : sameButPorts t u) : sameButPorts s u := by
  rw [sameButPorts] at *; rw [k, h]

theorem sameButPorts_setPort (s : State) (p : Fin 64) (q : Port) : sameButPorts s (s.setPort p q) := rfl

theorem sameButPorts_addTo (s : State) (k : Counter) (v : Word) : sameButPorts s (s.addTo k v) := rfl

theorem sameButPorts_count (s : State) (k : Counter) : sameButPorts s (s.count k) := rfl

theorem sameButPorts_emitMessage (s : State) (p : Fin 64) (m : Word) : sameButPorts s (s.emitMessage p m) := by
  unfold State.emitMessage
  simp only
  split <;> rfl

theorem sameButPorts_midiFeed (s : State) (p : Fin 64) (b : Byte) : sameButPorts s (s.midiFeed p b) := by
  unfold State.midiFeed
  simp only
  split
  · exact sameButPorts.trans (sameButPorts.trans (sameButPorts_setPort ..) (sameButPorts_addTo ..))
      (sameButPorts_emitMessage ..)
  · rfl

theorem sameButPorts_midiSlot (s : State) (p : Fin 64) (m0 m1 m2 m3 : Byte) :
    sameButPorts s (s.midiSlot p m0 m1 m2 m3) := by
  unfold State.midiSlot
  split
  · rfl
  · split
    · exact sameButPorts_midiFeed ..
    · split
      · exact .trans (sameButPorts_midiFeed ..) (sameButPorts_midiFeed ..)
      · split
        · exact .trans (.trans (sameButPorts_midiFeed ..) (sameButPorts_midiFeed ..)) (sameButPorts_midiFeed ..)
        · rfl

theorem sameButPorts_pushSample (s : State) (p : Fin 64) (v : Word) : sameButPorts s (s.pushSample p v) := by
  unfold State.pushSample
  simp only
  split <;> rfl

theorem sameButPorts_extractPort (s : State) (base : Nat) (p : Fin 64) : sameButPorts s (s.extractPort base p) := by
  unfold State.extractPort
  simp only
  split
  · exact sameButPorts_pushSample ..
  · exact sameButPorts_pushSample ..
  · exact sameButPorts_midiSlot ..
  · rfl

theorem sameButPorts_demuxBlock (s : State) (base : Nat) : sameButPorts s (s.demuxBlock base) := by
  refine State.forPorts_keeps (sameButPorts s) _ (fun t p ht => ?_) s rfl
  split
  · exact ht.trans (sameButPorts_extractPort ..)
  · exact ht

theorem sameButPorts_demuxBlocks (s : State) (B N : Nat) : sameButPorts s (s.demuxBlocks B N) :=
  State.forBlocks_keeps (sameButPorts s) _ (fun _ _ ht => ht.trans (sameButPorts_demuxBlock ..)) s N rfl

theorem CapturesOnly.refl (s : State) : CapturesOnly s s := ⟨fun _ => rfl, fun _ => rfl⟩

theorem CapturesOnly.trans {s t u : State} (h : CapturesOnly s t) (k : CapturesOnly t u) : CapturesOnly s u :=
  ⟨fun p => (k.entry p).trans (h.entry p), fun p => (k.eq p).trans (h.eq p)⟩

/-- A port of which only the sample and message queues and the decoder are set anew. -/
theorem capturesOnly_setPort (s : State) (p : Fin 64) (pf mq : List Word) (md : MidiDecoder) :
    CapturesOnly s (s.setPort p { s.ports[p] with pf := pf, mq := mq, md := md }) := by
  constructor <;>
  · intro q
    rw [State.setPort_port]
    split
    · subst p; rfl
    · rfl

theorem capturesOnly_addTo (s : State) (k : Counter) (v : Word) : CapturesOnly s (s.addTo k v) :=
  ⟨fun _ => rfl, fun _ => rfl⟩

theorem capturesOnly_count (s : State) (k : Counter) : CapturesOnly s (s.count k) := capturesOnly_addTo ..

theorem capturesOnly_emitMessage (s : State) (p : Fin 64) (m : Word) : CapturesOnly s (s.emitMessage p m) := by
  unfold State.emitMessage
  simp only
  split
  · exact capturesOnly_setPort ..
  · exact capturesOnly_count ..

theorem capturesOnly_midiFeed (s : State) (p : Fin 64) (b : Byte) : CapturesOnly s (s.midiFeed p b) := by
  unfold State.midiFeed
  have h := (capturesOnly_setPort s p s.ports[p].pf s.ports[p].mq (feedByte s.ports[p].md b).md).trans
    (capturesOnly_addTo _ .midiDiscard (BitVec.ofNat 32 (feedByte s.ports[p].md b).discards))
  simp only
  split
  · exact h.trans (capturesOnly_emitMessage ..)
  · exact h

theorem capturesOnly_midiSlot (s : State) (p : Fin 64) (m0 m1 m2 m3 : Byte) :
    CapturesOnly s (s.midiSlot p m0 m1 m2 m3) := by
  unfold State.midiSlot
  split
  · exact .refl _
  · split
    · exact capturesOnly_midiFeed ..
    · split
      · exact (capturesOnly_midiFeed ..).trans (capturesOnly_midiFeed ..)
      · split
        · exact ((capturesOnly_midiFeed ..).trans (capturesOnly_midiFeed ..)).trans (capturesOnly_midiFeed ..)
        · exact capturesOnly_count ..

theorem capturesOnly_pushSample (s : State) (p : Fin 64) (v : Word) : CapturesOnly s (s.pushSample p v) := by
  unfold State.pushSample
  simp only
  split
  · exact capturesOnly_setPort ..
  · exact capturesOnly_count ..

theorem capturesOnly_extractPort (s : State) (base : Nat) (p : Fin 64) : CapturesOnly s (s.extractPort base p) := by
  unfold State.extractPort
  simp only
  split
  · exact capturesOnly_pushSample ..
  · exact capturesOnly_pushSample ..
  · exact capturesOnly_midiSlot ..
  · exact .refl _

theorem capturesOnly_demuxBlock (s : State) (base : Nat) : CapturesOnly s (s.demuxBlock base) := by
  refine State.forPorts_keeps (CapturesOnly s) _ (fun t p ht => ?_) s (.refl s)
  split
  · exact ht.trans (capturesOnly_extractPort ..)
  · exact ht

/-- SP_DEMUX changes of a port only its capture queues and its decoder (R63, R366, R368). -/
theorem capturesOnly_demuxBlocks (s : State) (B N : Nat) : CapturesOnly s (s.demuxBlocks B N) :=
  State.forBlocks_keeps (CapturesOnly s) _ (fun _ _ ht => ht.trans (capturesOnly_demuxBlock ..)) s N (.refl s)

/-! ### SP_MUX: only port queues, counters and TXB -/

theorem sameButSlots.refl (s : State) : sameButSlots s s := rfl

theorem sameButSlots.trans {s t u : State} (h : sameButSlots s t) (k : sameButSlots t u) : sameButSlots s u := by
  rw [sameButSlots] at *; rw [k, h]

theorem sameButSlots_writeTxb (s : State) (a : Nat) (bs : List Byte) : sameButSlots s (s.writeTxb a bs) := rfl

theorem sameButSlots_fillSample (s : State) (p : Fin 64) (a : Nat) : sameButSlots s (s.fillSample p a) := by
  unfold State.fillSample
  simp only
  split
  · split <;> rfl
  · rfl

theorem sameButSlots_fillMidi (s : State) (p : Fin 64) (a : Nat) : sameButSlots s (s.fillMidi p a) := by
  unfold State.fillMidi
  simp only
  split <;> rfl

theorem sameButSlots_fillSlot (s : State) (base : Nat) (p : Fin 64) : sameButSlots s (s.fillSlot base p) := by
  unfold State.fillSlot
  simp only
  split
  · exact sameButSlots_fillSample ..
  · exact sameButSlots_fillSample ..
  · exact sameButSlots_fillMidi ..
  · rfl

theorem sameButSlots_muxBlock (s : State) (base : Nat) : sameButSlots s (s.muxBlock base) := by
  refine State.forPorts_keeps (sameButSlots s) _ (fun t p ht => ?_) s rfl
  split
  · exact ht.trans (sameButSlots_fillSlot ..)
  · exact ht

theorem sameButSlots_muxBlocks (s : State) (B N : Nat) : sameButSlots s (s.muxBlocks B N) :=
  State.forBlocks_keeps (sameButSlots s) _ (fun _ _ ht => ht.trans (sameButSlots_muxBlock ..)) s N rfl

theorem PlaysOnly.refl (s : State) : PlaysOnly s s := ⟨fun _ => rfl, fun _ => rfl, fun _ => rfl⟩

theorem PlaysOnly.trans {s t u : State} (h : PlaysOnly s t) (k : PlaysOnly t u) : PlaysOnly s u :=
  ⟨fun p => (k.entry p).trans (h.entry p), fun p => (k.mq p).trans (h.mq p), fun p => (k.md p).trans (h.md p)⟩

/-- A port of which only the sample and encoder queues are set anew. -/
theorem playsOnly_setPort (s : State) (p : Fin 64) (pf : List Word) (eq : List Byte) :
    PlaysOnly s (s.setPort p { s.ports[p] with pf := pf, eq := eq }) := by
  constructor <;>
  · intro q
    rw [State.setPort_port]
    split
    · subst p; rfl
    · rfl

theorem playsOnly_writeTxb (s : State) (a : Nat) (bs : List Byte) : PlaysOnly s (s.writeTxb a bs) :=
  ⟨fun _ => rfl, fun _ => rfl, fun _ => rfl⟩

theorem playsOnly_count (s : State) (k : Counter) : PlaysOnly s (s.count k) :=
  ⟨fun _ => rfl, fun _ => rfl, fun _ => rfl⟩

theorem playsOnly_fillSample (s : State) (p : Fin 64) (a : Nat) : PlaysOnly s (s.fillSample p a) := by
  unfold State.fillSample
  simp only
  split
  · split
    · exact (playsOnly_setPort ..).trans (playsOnly_writeTxb ..)
    · exact playsOnly_count ..
  · exact .refl _

theorem playsOnly_fillMidi (s : State) (p : Fin 64) (a : Nat) : PlaysOnly s (s.fillMidi p a) := by
  unfold State.fillMidi
  simp only
  split
  · exact (playsOnly_setPort ..).trans (playsOnly_writeTxb ..)
  · exact playsOnly_writeTxb ..

theorem playsOnly_fillSlot (s : State) (base : Nat) (p : Fin 64) : PlaysOnly s (s.fillSlot base p) := by
  unfold State.fillSlot
  simp only
  split
  · exact playsOnly_fillSample ..
  · exact playsOnly_fillSample ..
  · exact playsOnly_fillMidi ..
  · exact .refl _

theorem playsOnly_muxBlock (s : State) (base : Nat) : PlaysOnly s (s.muxBlock base) := by
  refine State.forPorts_keeps (PlaysOnly s) _ (fun t p ht => ?_) s (.refl s)
  split
  · exact ht.trans (playsOnly_fillSlot ..)
  · exact ht

/-- SP_MUX changes of a port only its playback queues (R63, R370, R371). -/
theorem playsOnly_muxBlocks (s : State) (B N : Nat) : PlaysOnly s (s.muxBlocks B N) :=
  State.forBlocks_keeps (PlaysOnly s) _ (fun _ _ ht => ht.trans (playsOnly_muxBlock ..)) s N (.refl s)

/-- SP_MUX changes TXB, the port queues, CNT_PORT_UNF's counters and DBC_TX, and nothing else (R370). -/
theorem State.muxPacket_frame (s : State) (N : Nat) (y : BitVec 16) :
    s.muxPacket N y = { s with
      ports := (s.muxPacket N y).ports, counters := (s.muxPacket N y).counters, txb := (s.muxPacket N y).txb
      dbcTx := s.dbcTx + BitVec.ofNat 8 N } := by
  unfold State.muxPacket
  simp only
  have h := sameButSlots_muxBlocks ((s.writeTxb 0 (List.replicate (8 + N * (4 * s.dim.toNat)) 0)).writeTxb 0
    (s.muxHeader y)) (4 * s.dim.toNat) N
  generalize hu : (s.writeTxb 0 (List.replicate (8 + N * (4 * s.dim.toNat)) 0)).writeTxb 0 (s.muxHeader y) = u at h ⊢
  generalize u.muxBlocks (4 * s.dim.toNat) N = x at h ⊢
  cases s; cases u; cases x
  simp only [State.writeTxb, State.mk.injEq] at hu
  simp only [sameButSlots, State.mk.injEq] at h
  simp only [State.mk.injEq]
  simp_all

/-! ### The SYT monitor and SP_DEMUX as a whole -/

theorem State.sytCheck_frame (s : State) (y : BitVec 16) (ts : Word) :
    s.sytCheck y ts = { s with
      sytmonLast := ts, sytmonHave := true
      counters := if sytMismatch y ts || s.sytBackward ts then s.counters.add .sytmon 1 else s.counters } := by
  unfold State.sytCheck
  simp only
  split <;> rfl

theorem State.noteTimestamp_frame (s : State) (y : BitVec 16) (o : Option Word) :
    s.noteTimestamp y o = { s with
      lastTs := (s.noteTimestamp y o).lastTs, tsValid := (s.noteTimestamp y o).tsValid
      sytmonLast := (s.noteTimestamp y o).sytmonLast, sytmonHave := (s.noteTimestamp y o).sytmonHave
      counters := (s.noteTimestamp y o).counters } := by
  unfold State.noteTimestamp
  split
  · simp only [State.sytCheck_frame]
  · rfl

/-- SP_DEMUX past its checks changes the port queues, the counters, the timestamp and monitor registers, CPKT_VALID and
RES, and nothing else (R366). -/
theorem State.demuxPacket_frame (s : State) (N : Nat) :
    s.demuxPacket N = { s with
      ports := (s.demuxPacket N).ports, counters := (s.demuxPacket N).counters, res := (s.demuxPacket N).res
      lastTs := (s.demuxPacket N).lastTs, tsValid := (s.demuxPacket N).tsValid
      sytmonLast := (s.demuxPacket N).sytmonLast, sytmonHave := (s.demuxPacket N).sytmonHave, cpktValid := false } := by
  unfold State.demuxPacket
  simp only
  have h := sameButPorts_demuxBlocks (s.noteTimestamp (cipSyt s.lastCip1) (s.demuxTimestamp (cipSyt s.lastCip1)))
    (4 * s.dim.toNat) N
  have k := State.noteTimestamp_frame s (cipSyt s.lastCip1) (s.demuxTimestamp (cipSyt s.lastCip1))
  generalize (s.noteTimestamp (cipSyt s.lastCip1) (s.demuxTimestamp (cipSyt s.lastCip1))) = u at h k ⊢
  generalize u.demuxBlocks (4 * s.dim.toNat) N = x at h ⊢
  cases s; cases u; cases x
  simp only [sameButPorts, State.mk.injEq] at h k
  simp only [State.withRes, State.mk.injEq]
  simp_all

theorem State.demuxPacket_capturesOnly (s : State) (N : Nat) : CapturesOnly s (s.demuxPacket N) := by
  unfold State.demuxPacket
  have h := capturesOnly_demuxBlocks (s.noteTimestamp (cipSyt s.lastCip1) (s.demuxTimestamp (cipSyt s.lastCip1)))
    (4 * s.dim.toNat) N
  have k : (s.noteTimestamp (cipSyt s.lastCip1) (s.demuxTimestamp (cipSyt s.lastCip1))).ports = s.ports := by
    rw [State.noteTimestamp_frame]
  exact ⟨fun p => by simpa [k] using h.entry p, fun p => by simpa [k] using h.eq p⟩

theorem State.muxPacket_playsOnly (s : State) (N : Nat) (y : BitVec 16) : PlaysOnly s (s.muxPacket N y) := by
  have h := ((playsOnly_writeTxb s 0 (List.replicate (8 + N * (4 * s.dim.toNat)) 0)).trans
    (playsOnly_writeTxb _ 0 (s.muxHeader y))).trans (playsOnly_muxBlocks _ (4 * s.dim.toNat) N)
  exact ⟨h.entry, h.mq, h.md⟩

/-! ### Canonical memories -/

theorem State.ringAdd_canonical {s : State} (h : s.memoriesCanonical) (b : List Byte) (tag : BitVec 2) (sy : BitVec 4)
    (cycle : BitVec 13) (ctr : Word) : (s.ringAdd b tag sy cycle ctr).memoriesCanonical :=
  ⟨h.1, writeBytes_rising h.2.1 _ _, insertAt_rising h.2.2 _ _⟩

theorem State.writeTxb_canonical {s : State} (h : s.memoriesCanonical) (a : Nat) (bs : List Byte) :
    (s.writeTxb a bs).memoriesCanonical :=
  ⟨writeBytes_rising h.1 _ _, h.2.1, h.2.2⟩

end Sys2Proof.Machine
end

