-- ==== Sys2Proof/Laws/Operands.lean ====
section
/-! SUPPORT. The fields of a port entry (R176) read bit by bit, the direction and ranges of operands, and RES after one
result. -/

namespace Sys2Proof.Machine

/-! ### Port entries by their bits -/

theorem extractLsb'_one (e : Word) (i : Nat) : e.extractLsb' i 1 = BitVec.ofBool (e.getLsbD i) := by
  apply BitVec.eq_of_getLsbD_eq
  intro j hj
  obtain rfl : j = 0 := by omega
  simp

theorem entryDir_eq (e : Word) : entryDir e = if e.getLsbD 1 = true then .tx else .rx := by
  rw [entryDir, extractLsb'_one]
  cases e.getLsbD 1 <;> rfl

theorem entryWidth_eq (e : Word) : entryWidth e = 3 + (e.extractLsb' 4 1).toNat := by
  rw [extractLsb'_one, entryWidth, entryWide]
  cases e.getLsbD 4 <;> rfl

theorem entryType_midi {e : Word} : entryType e = .midi ↔ e.extractLsb' 2 2 = 1 := by
  simp only [entryType]
  generalize e.extractLsb' 2 2 = x
  revert x
  decide

theorem entryType_reserved {e : Word} : entryType e = .reserved ↔ e.extractLsb' 2 2 = 3 := by
  simp only [entryType]
  generalize e.extractLsb' 2 2 = x
  revert x
  decide

/-- What PORT_READ's port check refuses (R364). -/
theorem isSamplePort_rx_false {e : Word} :
    isSamplePort .rx e = false ↔ e.getLsbD 0 = false ∨ e.extractLsb' 2 2 = 1 ∨ e.getLsbD 1 = true := by
  rw [← entryType_midi, isSamplePort, entryValid, entryDir_eq]
  cases e.getLsbD 0 <;> cases e.getLsbD 1 <;> simp

/-- What PORT_WRITE's port check refuses (R365). -/
theorem isSamplePort_tx_false {e : Word} :
    isSamplePort .tx e = false ↔ e.getLsbD 0 = false ∨ e.extractLsb' 2 2 = 1 ∨ e.getLsbD 1 = false := by
  rw [← entryType_midi, isSamplePort, entryValid, entryDir_eq]
  cases e.getLsbD 0 <;> cases e.getLsbD 1 <;> simp

/-- What MIDI_DECODE's and MIDI_READ's port checks refuse (R413, R414). -/
theorem isMidiPort_rx_false {e : Word} :
    isMidiPort .rx e = false ↔ e.getLsbD 0 = false ∨ e.extractLsb' 2 2 ≠ 1 ∨ e.getLsbD 1 = true := by
  rw [ne_eq, ← entryType_midi, isMidiPort, entryValid, entryDir_eq]
  cases e.getLsbD 0 <;> cases e.getLsbD 1 <;> simp

/-- What MIDI_ENCODE's port check refuses (R415). -/
theorem isMidiPort_tx_false {e : Word} :
    isMidiPort .tx e = false ↔ e.getLsbD 0 = false ∨ e.extractLsb' 2 2 ≠ 1 ∨ e.getLsbD 1 = false := by
  rw [ne_eq, ← entryType_midi, isMidiPort, entryValid, entryDir_eq]
  cases e.getLsbD 0 <;> cases e.getLsbD 1 <;> simp

/-- The bits of a field that is 0. -/
theorem getLsbD_of_extract {n : Nat} {e : BitVec n} {s l : Nat} (h : e.extractLsb' s l = 0) {i : Nat} (hi : i < l) :
    e.getLsbD (s + i) = false := by
  have := congrArg (fun x => BitVec.getLsbD x i) h
  simpa [hi] using this

/-- A field whose bits are 0. -/
theorem extract_of_getLsbD {n : Nat} {e : BitVec n} {s l : Nat} (h : ∀ i, i < l → e.getLsbD (s + i) = false) :
    e.extractLsb' s l = 0 := by
  apply BitVec.eq_of_getLsbD_eq
  intro i hi
  simp [hi, h i hi]

/-- The bits ADD_PORT requires to be 0, field by field (R176, R362). -/
theorem entryMustBeZero_clear {e : Word} : e &&& entryMustBeZero = 0 ↔
    e.getLsbD 0 = false ∧ e.getLsbD 5 = false ∧ e.extractLsb' 6 2 = 0 ∧ e.extractLsb' 27 5 = 0 := by
  have hm : ∀ i, (e &&& entryMustBeZero).getLsbD i = (e.getLsbD i && entryMustBeZero.getLsbD i) := fun i => BitVec.getLsbD_and
  constructor
  · intro h
    have hb : ∀ i, entryMustBeZero.getLsbD i = true → e.getLsbD i = false := by
      intro i hi
      have := hm i
      rw [h, hi] at this
      simpa using this.symm
    refine ⟨hb 0 rfl, hb 5 rfl, extract_of_getLsbD fun i hi => hb _ ?_, extract_of_getLsbD fun i hi => hb _ ?_⟩
    · revert hi
      revert i
      decide
    · revert hi
      revert i
      decide
  · rintro ⟨h0, h5, h6, h27⟩
    apply BitVec.eq_of_getLsbD_eq
    intro i hi
    rw [hm]
    have hc : entryMustBeZero.getLsbD i = true → i = 0 ∨ i = 5 ∨ (6 ≤ i ∧ i < 8) ∨ 27 ≤ i := by
      revert hi
      revert i
      decide
    cases hb : entryMustBeZero.getLsbD i with
    | false => simp
    | true =>
      rcases hc hb with rfl | rfl | h | h
      · rw [h0]
        rfl
      · rw [h5]
        rfl
      · have := getLsbD_of_extract h6 (i := i - 6) (by omega)
        rw [show 6 + (i - 6) = i by omega] at this
        simp [this]
      · have := getLsbD_of_extract h27 (i := i - 27) (by omega)
        rw [show 27 + (i - 27) = i by omega] at this
        simp [this]

/-! ### Operand fields -/

theorem directionOf_eq {x : Word} (h : x.toNat < 2) : directionOf (x.setWidth 1) = if x.toNat = 0 then .rx else .tx := by
  obtain h | h : x.toNat = 0 ∨ x.toNat = 1 := by omega
  · obtain rfl : x = 0 := BitVec.eq_of_toNat_eq (by simpa using h)
    rfl
  · obtain rfl : x = 1 := BitVec.eq_of_toNat_eq (by simpa using h)
    rfl

/-- A field is 0 exactly if its number is, when the register holds nothing above it. -/
theorem setWidth_eq_zero {x : Word} {n : Nat} (h : x.toNat < 2 ^ n) : x.setWidth n = 0 ↔ x.toNat = 0 := by
  rw [← BitVec.toNat_inj]
  simp [Nat.mod_eq_of_lt h]

/-- RES after a result in RES0 only. -/
theorem res_set_zero (r : Vector Word 4) (v : Word) : r.set 0 v = #v[v, r[1], r[2], r[3]] := by
  apply Vector.ext
  intro i hi
  obtain rfl | rfl | rfl | rfl : i = 0 ∨ i = 1 ∨ i = 2 ∨ i = 3 := by omega
  all_goals simp

end Sys2Proof.Machine
end

