-- ==== Sys2Proof/Laws/PerInstr.lean ====
section
/-! SUPPORT. The family RoundTrip, one lemma per instruction: a well-formed instruction decodes from what encodes it. -/

/-- Decoding the encoding of a well-formed instruction gives it back (R180, R185). -/
def Sys2Proof.Laws.RoundTrip.Statement (i : Sys2Proof.Instr) : Prop :=
  i.wellFormed = true → Sys2Proof.decode (Sys2Proof.encode i) = .ok i

namespace Sys2Proof.Laws.RoundTrip

theorem nop : Statement .nop := fun _ => rfl

theorem openStream : Statement .openStream := fun _ => rfl

theorem init : Statement .init := fun _ => rfl

theorem start : Statement .start := fun _ => rfl

theorem stop : Statement .stop := fun _ => rfl

theorem close : Statement .close := fun _ => rfl

theorem resume : Statement .resume := fun _ => rfl

theorem setConfig : Statement .setConfig := fun _ => rfl

theorem addPort : Statement .addPort := fun _ => rfl

theorem removePort : Statement .removePort := fun _ => rfl

theorem rbAdd : Statement .rbAdd := fun _ => rfl

theorem rbGet : Statement .rbGet := fun _ => rfl

theorem rbFillPackets : Statement .rbFillPackets := fun _ => rfl

theorem rbFillPayload : Statement .rbFillPayload := fun _ => rfl

theorem spDemux : Statement .spDemux := fun _ => rfl

theorem spMux : Statement .spMux := fun _ => rfl

theorem portRead : Statement .portRead := fun _ => rfl

theorem portWrite : Statement .portWrite := fun _ => rfl

theorem midiDecode : Statement .midiDecode := fun _ => rfl

theorem midiRead : Statement .midiRead := fun _ => rfl

theorem midiEncode : Statement .midiEncode := fun _ => rfl

theorem ctTicksToCycles : Statement .ctTicksToCycles := fun _ => rfl

theorem ctCyclesToTicks : Statement .ctCyclesToTicks := fun _ => rfl

theorem ctReconstruct : Statement .ctReconstruct := fun _ => rfl

theorem ctToTicks : Statement .ctToTicks := fun _ => rfl

theorem ctFromTicks : Statement .ctFromTicks := fun _ => rfl

theorem ctSytCheck : Statement .ctSytCheck := fun _ => rfl

theorem isoPut (data : List Byte) (channel : BitVec 6) (tag : BitVec 2) (sy : BitVec 4) (cycle : BitVec 13)
    (dropped ctr : Word) : Statement (.isoPut data channel tag sy cycle dropped ctr) := by
  intro h
  simp only [Instr.wellFormed, decide_eq_true_eq] at h
  simp [encode, decode, decodeIso, h]

theorem isoGet (cycle : BitVec 13) (dropped : Word) (maxLength : BitVec 16) :
    Statement (.isoGet cycle dropped maxLength) := fun _ => rfl

theorem isoBusReset : Statement .isoBusReset := fun _ => rfl

end Sys2Proof.Laws.RoundTrip
end

