-- ==== Sys2Proof/Tests/Slice0.lean ====
section
/-! SUPPORT. Tests: the ill-formed term each well-formedness check refuses, every instruction decoded from a word written
out from the spec's encoding of it, one small step per vector of 95_test_vectors.md (or of the example of the rule named),
and for each statement with hypotheses or several clauses a state and operands that meet each of them. -/

namespace Sys2Proof.Tests

open Sys2Proof.Machine

/-! ### Small states -/

/-- `STATUS.ERR` after a step, `none` where it stops. -/
def errOf (r : Result) : Option ErrCode :=
  match r with
  | .next t => some t.err
  | _ => none

/-- A part of the state after a step, `none` where it stops. -/
def after {α : Type} (f : State → α) (r : Result) : Option α :=
  match r with
  | .next t => some (f t)
  | _ => none

theorem errOf_next {r : Result} {e : ErrCode} (h : errOf r = some e) : ∃ t, r = .next t ∧ t.err = e := by
  cases r with
  | next t => exact ⟨t, rfl, by simpa [errOf] using h⟩
  | fault f => cases h
  | refused f => cases h

/-- The operands ARG0 to ARG2. -/
def args (s : State) (a b c : Word) : State := { s with arg := #v[a, b, c, 0, 0, 0, 0, 0] }

/-- An open stream of dimension 2 on channel 5. -/
def opened (d : Direction) : State := { State.reset with lc := .opened, dir := d, dim := 2, chan := 5 }

/-- Its ring initialised with 8-byte headers, 4 slots and 64-byte packets. -/
def ready (d : Direction) : State := { opened d with lc := .ready, hdrSize := 8, cap := 4, maxPkt := 64 }

def running (d : Direction) : State := { ready d with lc := .running }

/-- Port `p` of the table. -/
def withPort (s : State) (p : Fin 64) (q : Port) : State := s.setPort p q

/-- Entries of 95_test_vectors.md 2.1 as ADD_PORT stores them: 3-byte audio at offset 1 and MIDI at offset 4. -/
def captureAudio : Port := { Port.empty with entry := 0x07FC0101 }
def captureMidi : Port := { Port.empty with entry := 0x07FC0415 }
def playbackAudio : Port := { Port.empty with entry := 0x07FC0103 }
def playbackMidi : Port := { Port.empty with entry := 0x07FC0417 }

/-- A ring holding one packet of `len` bytes, with SYNC(W) taken. -/
def onePacket (s : State) (len : BitVec 13) : State :=
  { s with
    wIdx := 1, wAtC := 1, ring := writeBytes [] 0 ((List.range len.toNat).map (BitVec.ofNat 8)),
    slotMeta := [(0, { len, tag := 1, sy := 0, cycle := 100, ctr := 0x14064000 })] }

/-! ### Well-formedness and decoding -/

/-- WellFormed smoke: an ISO_PUT of 65536 bytes is refused, one of 65535 is not. -/
theorem test_isoPut_too_long :
    Instr.wellFormed (.isoPut (List.replicate 65536 0) 0 0 0 0 0 0) = false ∧
    Instr.wellFormed (.isoPut (List.replicate 65535 0) 0 0 0 0 0 0) = true := by
  simp only [Instr.wellFormed, maxIsoLength, List.length_replicate]
  decide

/-- R180: lifecycle, configuration and ring commands. -/
theorem test_decode_stream_commands :
    decodeCmd 0x00000000 = .ok .nop ∧ decodeCmd 0x00000001 = .ok .openStream ∧ decodeCmd 0x00000002 = .ok .init ∧
    decodeCmd 0x00000003 = .ok .start ∧ decodeCmd 0x00000004 = .ok .stop ∧ decodeCmd 0x00000005 = .ok .close ∧
    decodeCmd 0x00000006 = .ok .resume ∧ decodeCmd 0x00000008 = .ok .setConfig ∧
    decodeCmd 0x00000009 = .ok .addPort ∧ decodeCmd 0x0000000A = .ok .removePort ∧
    decodeCmd 0x00000010 = .ok .rbAdd ∧ decodeCmd 0x00000011 = .ok .rbGet ∧
    decodeCmd 0x00000012 = .ok .rbFillPackets ∧ decodeCmd 0x00000013 = .ok .rbFillPayload := by decide

/-- R180: stream processor, MIDI and cycle-timer commands. -/
theorem test_decode_data_commands :
    decodeCmd 0x00000018 = .ok .spDemux ∧ decodeCmd 0x00000019 = .ok .spMux ∧
    decodeCmd 0x0000001A = .ok .portRead ∧ decodeCmd 0x0000001B = .ok .portWrite ∧
    decodeCmd 0x00000020 = .ok .midiDecode ∧ decodeCmd 0x00000021 = .ok .midiRead ∧
    decodeCmd 0x00000022 = .ok .midiEncode ∧ decodeCmd 0x00000028 = .ok .ctTicksToCycles ∧
    decodeCmd 0x00000029 = .ok .ctCyclesToTicks ∧ decodeCmd 0x0000002A = .ok .ctReconstruct ∧
    decodeCmd 0x0000002B = .ok .ctToTicks ∧ decodeCmd 0x0000002C = .ok .ctFromTicks ∧
    decodeCmd 0x0000002D = .ok .ctSytCheck := by decide

/-- R185: the kind codes 0 to 2, with every field of the transaction. -/
theorem test_decode_iso :
    decode (.iso { IsoRecord.blank 0 with
        data := [1, 2], channel := 63, tag := 3, sy := 15, cycle := 7999, dropped := 1, ctr := 2 }) =
      .ok (.isoPut [1, 2] 63 3 15 7999 1 2) ∧
    decode (.iso { IsoRecord.blank 1 with cycle := 8191, dropped := 3, maxLength := 65535 }) =
      .ok (.isoGet 8191 3 65535) ∧
    decode (.iso (IsoRecord.blank 2)) = .ok .isoBusReset := by decide

/-- 95_test_vectors.md 2.1 and 2.7: reserved opcodes, reserved bits, the reserved kind. -/
theorem test_decode_refuses :
    decodeCmd 0x00000007 = .error .reservedOpcode ∧ decodeCmd 0x0000002E = .error .reservedOpcode ∧
    decodeCmd 0x000000FF = .error .reservedOpcode ∧ decodeCmd 0x00000014 = .error .reservedOpcode ∧
    decodeCmd 0x00000100 = .error .cmdReservedBits ∧ decodeCmd 0x00000107 = .error .cmdReservedBits ∧
    decode (.iso (IsoRecord.blank 3)) = .error .reservedKind := by decide

/-- The host's table words: CMD rows are 32 bits, ISO rows carry the kind code. -/
theorem test_table_words :
    decodeTableWord 32 0x19 = some .spMux ∧ decodeTableWord 8 1 = some (.isoGet 0 0 0) ∧
    decodeTableWord 8 2 = some .isoBusReset ∧ decodeTableWord 8 3 = none := by decide

/-- A placed instruction is what the next step runs: CT_TO_TICKS and ISO_BUS_RESET right after reset. -/
theorem test_withFetchWord_runs :
    after (fun t => (t.cmd, t.ctHave, t.resp)) (step (State.reset.withFetchWord 32 0x2B)) =
      some (0x2B, true, .written) ∧
    after (fun t => (t.brp, t.draw)) (step (State.reset.withFetchWord 8 2)) = some (false, 1) := by decide

/-! ### Lifecycle: vectors of 95_test_vectors.md 2.4 -/

theorem test_nop : errOf (execNop { State.reset with err := .eState }) = some .ok := by decide

theorem test_open :
    after (fun t => (t.lc, t.chan, t.dir, t.dim)) (execOpenStream (args State.reset 5 0 8)) =
      some (.opened, 5, .rx, 8) := by decide

theorem test_init :
    after (fun t => (t.lc, t.cap, t.err)) (execInit (args (opened .rx) 8 8192 8)) = some (.ready, 8192, .ok) ∧
    after (fun t => (t.lc, t.cap, t.err)) (execInit (args (opened .rx) 8 8192 16)) = some (.closed, 0, .eResource) := by
  decide

theorem test_start_stop :
    after (fun t => t.lc) (execStart (ready .rx)) = some .running ∧
    after (fun t => t.lc) (execStop (running .rx)) = some .stopped := by decide

theorem test_close :
    after (fun t => (t.lc, t.cap)) (execClose { ready .rx with lc := .stopped }) = some (.closed, 0) ∧
    errOf (execClose (running .rx)) = some .eState := by decide

theorem test_resume :
    after (fun t => (t.chan, t.brp)) (execResume (args { running .rx with brp := true } 7 0 0)) = some (7, false) ∧
    errOf (execResume (args { running .rx with brp := true } 64 0 0)) = some .eArg := by decide

/-! ### Configuration and ports: 95_test_vectors.md 2.5 -/

theorem test_set_config :
    after (fun t => (t.tier, t.opt)) (execSetConfig (args { State.reset with supported := 0x00F } 0 1 0)) =
      some (.x1, .adat) ∧
    errOf (execSetConfig (args { State.reset with supported := 0x00F } 1 1 0)) = some .eConfig := by decide

theorem test_add_port :
    after (fun t => (t.ports[1].entry, t.err)) (execAddPort (args (opened .rx) 1 0x07FC0414 0)) =
      some (0x07FC0415, .ok) ∧
    errOf (execAddPort (args (withPort (opened .tx) 0 playbackAudio) 1 0x07FC0302 0)) = some .ePort := by decide

theorem test_remove_port :
    after (fun t => t.ports[1].entry) (execRemovePort (args (withPort (opened .rx) 1 captureMidi) 1 0 0)) = some 0 ∧
    errOf (execRemovePort (args (opened .rx) 1 0 0)) = some .ePort := by decide

theorem test_port_read :
    after (fun t => (t.res[0], t.ports[0].pf))
      (execPortRead (withPort (opened .rx) 0 { captureAudio with pf := [0x00123456, 0x00ABCDEF] })) =
        some (0x00123456, [0x00ABCDEF]) := by decide

theorem test_port_write :
    after (fun t => t.ports[0].pf)
      (execPortWrite (args (withPort (opened .tx) 0 { playbackAudio with pf := [1] }) 0 0x00123456 0)) =
        some [1, 0x00123456] ∧
    errOf (execPortWrite (args (withPort (opened .tx) 0 playbackAudio) 0 0x01123456 0)) = some .eArg := by decide

/-! ### Ring: 95_test_vectors.md 2.3 -/

/-- The index wraps: `W = 5`, `CAP = 3` gives 0; the third slot holds the bytes. -/
theorem test_rb_add :
    after (fun t => (t.wIdx, lookupAt t.ring 32, lookupAt t.ring 39))
      (execRbAdd (args { ready .tx with
        cap := 3, maxPkt := 16, wIdx := 5, rAtP := 4, txb := writeBytes [] 0 [9, 8, 7, 6, 5, 4, 3, 2] } 8 0 0)) =
      some (0, some 9, some 2) := by decide

theorem test_rb_get :
    after (fun t => (t.res[0], t.res[1], t.cpktCtr, t.rIdx, lookupAt t.txb 3))
      (execRbGet (args (onePacket (ready .rx) 24) 24 0 0)) =
        some (24, 0x00640001, 0x14064000, 1, some 3) := by decide

/-- `fill(1, 4) = 3` for `CAP = 3`. -/
theorem test_fill_packets :
    after (fun t => t.res[0]) (execRbFillPackets { ready .tx with cap := 3, wIdx := 1, rAtP := 4 }) = some 3 := by decide

/-- Packets of 32, 24 and 8 bytes with 8-byte headers: the 24 + 16 + 0 of R274's example (log 25). -/
theorem test_fill_payload :
    after (fun t => t.res[0]) (execRbFillPayload { ready .rx with
      wAtC := 3,
      slotMeta := [(0, { len := 32, tag := 0, sy := 0, cycle := 0, ctr := 0 }),
        (1, { len := 24, tag := 0, sy := 0, cycle := 0, ctr := 0 }),
        (2, { len := 8, tag := 0, sy := 0, cycle := 0, ctr := 0 })] }) = some 40 := by decide

/-! ### Demultiplexer and multiplexer -/

/-- The packet of R368's example. -/
def demuxExample : State :=
  { withPort (withPort (ready .rx) 0 captureAudio) 1 captureMidi with
    cpktValid := true, cpktLen := 24, cpktCtr := 0x14064000,
    txb := writeBytes [] 0
      [0x01, 0x02, 0x00, 0x10, 0x90, 0x02, 0x51, 0x23, 0x40, 0x12, 0x34, 0x56, 0x81, 0x90, 0x00, 0x00,
        0x40, 0xAB, 0xCD, 0xEF, 0x80, 0x00, 0x00, 0x00] }

/-- R368's example: the results. -/
theorem test_demux_results :
    after (fun t => (t.res[0], t.res[1], t.res[2], t.lastCip0, t.cpktValid, t.err)) (execSpDemux demuxExample) =
      some (2, 1, 0x14065123, 0x01020010, false, .ok) := by decide +kernel

/-- R368's example: the ports. -/
theorem test_demux_ports :
    after (fun t => (t.ports[0].pf, t.ports[1].md, t.ports[1].mq)) (execSpDemux demuxExample) =
      some ([0x00123456, 0x00ABCDEF], { ms := .awaitData1, rsb := 0x90, cur := 0x90, d1 := 0 }, []) := by decide +kernel

/-- The transmit stream of R371's example. -/
def muxExample : State :=
  { withPort (withPort (ready .tx) 0 { playbackAudio with pf := [0x123456, 0xABCDEF] }) 1
      { playbackMidi with eq := [0xC0, 0x05] } with
    txCip := 0x00021001 }

/-- R371's example: the packet. -/
theorem test_mux_packet :
    after (fun t => (List.range 32).map (lookupAt t.txb)) (execSpMux (args muxExample 3 0x5123 0)) =
      some ([0x01, 0x02, 0x00, 0x00, 0x90, 0x02, 0x51, 0x23, 0x00, 0x12, 0x34, 0x56, 0x81, 0xC0, 0x00, 0x00,
        0x00, 0xAB, 0xCD, 0xEF, 0x81, 0x05, 0x00, 0x00, 0x00, 0x00, 0x00, 0x00, 0x80, 0x00, 0x00, 0x00].map some) := by
  decide +kernel

/-- R371's example: the results. -/
theorem test_mux_results :
    after (fun t => (t.res[0], t.dbcTx, t.counters.portUnf, t.ports[0].pf, t.ports[1].eq))
      (execSpMux (args muxExample 3 0x5123 0)) = some (32, 3, 1, [], []) := by decide +kernel

/-! ### MIDI: 95_test_vectors.md 2.6 -/

/-- 90 40 7F, then running status 41 00; F0 01 F7; F1 20 21. -/
theorem test_midi_decoder :
    (feedBytes MidiDecoder.idle [0x90, 0x40, 0x7F, 0x41, 0x00]).2 = ([0x0390407F, 0x03904100], 0) ∧
    (feedBytes MidiDecoder.idle [0xF0, 0x01, 0xF7]).2 = ([], 3) ∧
    (feedBytes MidiDecoder.idle [0xF1, 0x20, 0x21]).2 = ([0x02F12000], 1) ∧
    (feedBytes MidiDecoder.idle [0x90, 0xF8, 0x40, 0x7F]).2 = ([0x01F80000, 0x0390407F], 0) ∧
    (feedBytes MidiDecoder.idle [0x90, 0x40, 0xF0]).2 = ([], 2) := by decide

theorem test_midi_decode :
    after (fun t => (t.res[0], t.res[1], t.ports[1].mq))
      (execMidiDecode (args (withPort (opened .rx) 1
        { captureMidi with md := { ms := .awaitData2, rsb := 0x90, cur := 0x90, d1 := 0x40 } }) 1 0x7F 0)) =
      some (1, 0x0390407F, [0x0390407F]) := by decide

theorem test_midi_read :
    after (fun t => (t.res[0], t.ports[1].mq))
      (execMidiRead (args (withPort (opened .rx) 1 { captureMidi with mq := [0x0390407F] }) 1 0 0)) =
        some (0x0390407F, []) := by decide

theorem test_midi_encode :
    after (fun t => t.ports[1].eq) (execMidiEncode (args (withPort (opened .tx) 1 playbackMidi) 1 0x02C00500 0)) =
      some [0xC0, 0x05] ∧
    [0x02900000, 0x03904080, 0x02C00501, 0x04C00500, 0x00000000, 0x01F00000, 0x03400000].map (midiWordLegal ·) =
      [false, false, false, false, false, false, false] := by decide

/-! ### Cycle timer: 95_test_vectors.md 2.2 and 1.1 -/

theorem test_ticks_to_cycles :
    after (fun t => t.res) (execCtTicksToCycles (args State.reset 0xFFFFFFFF 0xFFFFFFFF 0)) =
      some #v[661, 1023, 0x55555555, 0x00155555] := by decide

theorem test_cycles_to_ticks :
    after (fun t => (t.res[0], t.res[1])) (execCtCyclesToTicks (args State.reset 0xFFFFFFFF 3071 0)) =
      some (0xFFFFFFFF, 0x00000BFF) := by decide

/-- A carry into the seconds, and the literal mode's cycle 8003. -/
theorem test_reconstruct :
    after (fun t => (t.res[0], t.res[1])) (execCtReconstruct (args State.reset 0x3456 0x15F3B000 10)) =
      some (0x16003456, 1) ∧
    after (fun t => (t.res[0], t.res[1]))
      (execCtReconstruct (args { State.reset with params := { Params.default with wrapMode := .literal } }
        0x3456 0x15F3B000 10)) = some (0x17F43456, 1) := by decide

/-- The second step of the CT_TO_TICKS sequence. -/
theorem test_to_ticks :
    after (fun t => (t.res[0], t.res[1], t.res[2], t.ctEpoch))
      (execCtToTicks (args { State.reset with ctHave := true, ctLastSec := 127 } 0 0 0)) =
      some (0xBB800000, 0, 1, 1) := by decide

theorem test_from_ticks :
    after (fun t => t.res[0]) (execCtFromTicks (args State.reset 73743367 0 0)) = some 0x06005007 ∧
    after (fun t => t.res[0]) (execCtFromTicks (args State.reset 0xFFFFFFFF 0xFFFFFFFF 0)) = some 0xCE2953FF := by
  decide

/-- Step 2 of the CT_SYT_CHECK sequence (backward), and a mismatch. -/
theorem test_syt_check :
    after (fun t => (t.res[0], t.counters.sytmon))
      (execCtSytCheck (args { State.reset with sytmonHave := true, sytmonLast := 0x16072000 } 0x5123 0x14075123 0)) =
      some (2, 1) ∧
    after (fun t => t.res[0])
      (execCtSytCheck (args { State.reset with sytmonHave := true, sytmonLast := 0x14075123 } 0x5124 0x14075123 0)) =
      some 1 := by decide

/-! ### ISO transactions: 95_test_vectors.md 2.4 -/

theorem test_iso_put :
    after (fun t => (t.wIdx, t.counters.isoProto, t.resp))
      (execIsoPut [1, 2, 0, 0, 0x90, 2, 0xFF, 0xFF] 5 1 0 1 0 0 (running .rx)) = some (1, 0, .isoPut .ok) ∧
    after (fun t => (t.wIdx, t.counters.isoProto, t.counters.llDropped))
      (execIsoPut (List.replicate 68 0) 6 1 0 1 3 0 (running .rx)) = some (0, 1, 3) := by decide

/-- The no-data packet of R311's example, and a packet sent with the DBC after its last block. -/
theorem test_iso_get :
    after (fun t => (t.resp, t.counters.underflow))
      (execIsoGet 1 0 64 { running .tx with txCip := 0x00021001, isoDbcNext := 3 }) =
      some (.isoGet [0x01, 0x02, 0x00, 0x03, 0x90, 0x02, 0xFF, 0xFF] 8 1 0 .ok, 1) ∧
    after (fun t => (t.isoDbcNext, t.rIdx)) (execIsoGet 0 0 64 (onePacket (running .tx) 32)) = some (6, 1) := by decide

theorem test_iso_bus_reset :
    after (fun t => (t.brp, t.counters.busReset, t.lc)) (execIsoBusReset (running .rx)) = some (true, 1, .running) := by
  decide

/-! ### Host accesses: 95_test_vectors.md 2.7 -/

theorem test_host_reads :
    (State.reset.hostRead 32 0x0000).resp = .readData 0x1394A824 ∧ (State.reset.hostRead 32 0x0018).resp = .busError ∧
    (State.reset.hostRead 16 0x0000).resp = .busError ∧ (State.reset.hostRead 32 0x0300).resp = .busError ∧
    (State.reset.hostRead 32 0x000C).resp = .readData 0x10002000 ∧ (State.reset.hostRead 32 0x0022).resp = .busError ∧
    ({ running .tx with brp := true }.hostRead 32 0x0024).resp = .readData 0x0000001B := by decide

theorem test_host_writes :
    after (fun t => t.resp) (State.reset.hostWrite 32 0x0024 0) = some .busError ∧
    after (fun t => t.resp) (State.reset.hostWrite 32 0x0064 0x000000C0) = some .busError ∧
    after (fun t => t.resp) ((running .rx).hostWrite 32 0x0064 0x00021001) = some .busError ∧
    after (fun t => t.resp) (State.reset.hostWrite 32 0x0060 0x00000200) = some .busError ∧
    after (fun t => (t.txCip, t.resp)) (State.reset.hostWrite 32 0x0064 0x00021001) = some (0x00021001, .written) ∧
    after (fun t => (lookupAt t.txb 4, lookupAt t.txb 7)) (State.reset.hostWrite 32 0x1004 0x01020304) =
      some (some 1, some 4) := by decide


/-! ### Witnesses: hypotheses that something meets, and every clause at a boundary of its range -/

/-- The error each of some states gives with an instruction. -/
def errs (i : Instr) (l : List State) : List (Option ErrCode) := l.map fun s => errOf (exec i s)

/-- The fault a step stops with. -/
def faultOf (r : Result) : Option Fault :=
  match r with
  | .fault f => some f
  | _ => none

/-- The state with one request pending. -/
def asks (s : State) (q : Request) : State := { s with input := [q] }

theorem witness_DecodeAndEncodeAgree :
    Instr.wellFormed (.isoPut [1, 2] 63 3 15 8191 1 2) = true ∧
    decode (encode (.isoPut [1, 2] 63 3 15 8191 1 2)) = .ok (.isoPut [1, 2] 63 3 15 8191 1 2) ∧
    decode (.cmd 0x2D) = .ok .ctSytCheck := by decide

theorem witness_OnlyMappedOpcodesExecute :
    ([0x00, 0x06, 0x08, 0x0A, 0x10, 0x13, 0x18, 0x1B, 0x20, 0x22, 0x28, 0x2D].all fun w => (decodeCmd w).isOk) = true ∧
    ([0x07, 0x0B, 0x0F, 0x14, 0x17, 0x1C, 0x1F, 0x23, 0x27, 0x2E, 0xFF, 0x100].all fun w =>
      !(decodeCmd w).isOk) = true ∧
    (asks State.reset (.hostWrite 32 cmdOffset 0x07)).input = [.hostWrite 32 cmdOffset 0x07] := by decide

theorem witness_StepRunsTheDecodedInstruction :
    (asks State.reset (.hostWrite 32 cmdOffset 0x2D)).input = .hostWrite 32 cmdOffset 0x2D :: [] ∧
    decode (.cmd 0x2D) = .ok .ctSytCheck ∧
    (asks State.reset (.iso (IsoRecord.blank 2))).input = .iso (IsoRecord.blank 2) :: [] ∧
    decode (.iso (IsoRecord.blank 2)) = .ok .isoBusReset ∧ State.reset.input = [] := by decide

theorem witness_OpenStartsAStream :
    errs .openStream [opened .rx, args State.reset 64 0 1, args State.reset 0 2 1, args State.reset 0 0 256,
      args State.reset 0 0 0, args State.reset 63 1 255] =
      [some .eState, some .eArg, some .eArg, some .eArg, some .eArg, some .ok] := by decide

theorem witness_InitAllocatesTheRing :
    errs .init [State.reset, args (opened .rx) 0x2000 1 8, args (opened .rx) 0 0x4000 8, args (opened .rx) 0 1 0x2000,
      args (opened .rx) 0 0 8, args (opened .rx) 0 8193 8, args (opened .rx) 0 1 0, args (opened .rx) 0 1 4097,
      args (opened .rx) 9 1 8, args (opened .rx) 8 8192 9, args (opened .rx) 8 8192 8, args (opened .rx) 4096 16 4096] =
      [some .eState, some .eArg, some .eArg, some .eArg, some .eArg, some .eArg, some .eArg, some .eArg, some .eArg,
        some .eResource, some .ok, some .ok] := by decide

theorem witness_StartAndStopTheStream :
    errs .start [ready .rx, { ready .rx with lc := .stopped }, opened .rx, running .rx] =
      [some .ok, some .ok, some .eState, some .eState] ∧
    errs .stop [running .rx, ready .rx] = [some .ok, some .eState] := by decide

theorem witness_CloseTearsDown :
    errs .close [opened .rx, ready .rx, { ready .rx with lc := .stopped }, running .rx, State.reset] =
      [some .ok, some .ok, some .ok, some .eState, some .eState] := by decide

theorem witness_SetConfigChoosesASupportedConfiguration :
    errs .setConfig [args State.reset 3 0 0, args State.reset 0 3 0, args State.reset 2 2 0,
      args { State.reset with supported := 0x100 } 2 2 0, args State.reset 0 0 0] =
      [some .eArg, some .eArg, some .eConfig, some .ok, some .ok] := by decide

theorem witness_AddPortChecksAndStores :
    errs .addPort [State.reset, args (opened .rx) 64 0x07FC0100 0,
      args { opened .rx with params := { Params.default with nPorts := 4 } } 4 0x07FC0100 0,
      args (opened .rx) 0 0x07FC0101 0, args (opened .rx) 0 0x07FC0120 0, args (opened .rx) 0 0x07FC0140 0,
      args (opened .rx) 0 0x0FFC0100 0, args (opened .rx) 0 0x07FC000C 0, args (opened .rx) 0 0x07FC0102 0,
      args (opened .tx) 0 0x07FC0100 0, args (opened .rx) 0 0x07FC0404 0, args (opened .rx) 0 0x07FC0600 0,
      args (withPort (opened .tx) 0 playbackAudio) 1 0x07FC0302 0] =
      [some .eState, some .eArg, some .eArg, some .eArg, some .eArg, some .eArg, some .eArg, some .eArg, some .ePort,
        some .ePort, some .ePort, some .ePort, some .ePort] ∧
    errs .addPort [args (opened .rx) 63 0x07FC0500 0, args (withPort (opened .tx) 0 playbackAudio) 1 0x07FC0402 0] =
      [some .ok, some .ok] := by decide

theorem witness_RemovePortEmptiesTheEntry :
    errs .removePort [State.reset, args (opened .rx) 64 0 0, args (opened .rx) 63 0 0,
      args (withPort (opened .rx) 63 captureMidi) 63 0 0] =
      [some .eState, some .eArg, some .ePort, some .ok] := by decide

theorem witness_PortReadTakesTheOldestSample :
    errs .portRead [State.reset, args (opened .rx) 64 0 0, opened .rx, withPort (opened .rx) 0 captureMidi,
      withPort (opened .tx) 0 playbackAudio, withPort (opened .rx) 0 captureAudio,
      withPort (opened .rx) 0 { captureAudio with pf := [7] }] =
      [some .eState, some .eArg, some .ePort, some .ePort, some .ePort, some .eUnderflow, some .ok] := by decide

theorem witness_PortWriteQueuesTheSample :
    errs .portWrite [State.reset, args (opened .tx) 64 0 0, opened .tx, withPort (opened .tx) 0 playbackMidi,
      withPort (opened .rx) 0 captureAudio, args (withPort (opened .tx) 0 playbackAudio) 0 0x01000000 0,
      withPort { opened .tx with params := { Params.default with portDepth := 1 } } 0 { playbackAudio with pf := [7] },
      args (withPort (opened .tx) 0 playbackAudio) 0 0x00FFFFFF 0] =
      [some .eState, some .eArg, some .ePort, some .ePort, some .ePort, some .eArg, some .eOverflow, some .ok] := by
  decide

theorem witness_RbAddStoresThePacket :
    errs .rbAdd [opened .tx, ready .rx, args (ready .tx) 0x2000 0 0, args (ready .tx) 7 0 0, args (ready .tx) 65 0 0,
      args { ready .tx with wIdx := 4 } 8 0 0, args (ready .tx) 8 0 0] =
      [some .eState, some .eState, some .eArg, some .eArg, some .eTooLong, some .eOverflow, some .ok] := by decide

theorem witness_RbGetTakesTheOldestPacket :
    errs .rbGet [opened .rx, ready .tx, args (ready .rx) 0x10000 0 0, args (ready .rx) 64 0 0,
      args (onePacket (ready .rx) 24) 23 0 0, args (onePacket (ready .rx) 24) 24 0 0] =
      [some .eState, some .eState, some .eArg, some .eUnderflow, some .eTooLong, some .ok] := by decide

/-- A ring that holds one packet keeps the ring's invariant. -/
theorem onePacket_ringSafe (d : Direction) (len : BitVec 13) (h : len = 8 ∨ len = 24 ∨ len = 64) :
    (onePacket (ready d) len).ringSafe := by
  rcases h with rfl | rfl | rfl <;> cases d <;>
  · refine ⟨by unfold State.ringConfigured; decide, by unfold State.indicesOrdered; decide, fun j hj => ?_⟩
    obtain rfl : j = 0 := Nat.lt_one_iff.mp hj
    exact ⟨_, rfl, by decide, by decide, by decide⟩

theorem witness_FillQueriesShowTheView :
    errs .rbFillPackets [opened .rx, onePacket (ready .rx) 24] = [some .eState, some .ok] ∧
    errs .rbFillPayload [opened .rx, onePacket (ready .rx) 24] = [some .eState, some .ok] ∧
    (onePacket (ready .rx) 24).ringSafe :=
  ⟨by decide, by decide, onePacket_ringSafe _ _ (by decide)⟩

theorem witness_SpDemuxRefusesMalformedPackets :
    errs .spDemux [opened .rx, ready .tx, ready .rx, { demuxExample with cpktLen := 7 }, { demuxExample with dim := 3 },
      { demuxExample with cpktLen := 23 }, { demuxExample with cpktLen := 8 }] =
      [some .eState, some .eState, some .eState, some .eProtoShort, some .eProtoDim, some .eProtoLen, some .ok] := by
  decide +kernel

theorem witness_SpDemuxMakesTheTimestamp :
    demuxExample.lc = .ready ∧ demuxExample.dir = .rx ∧ demuxExample.cpktValid = true ∧
    8 ≤ demuxExample.cpktLen.toNat ∧ (demuxExample.txbQuad 0).extractLsb' 16 8 = demuxExample.dim ∧
    (demuxExample.cpktLen.toNat - 8) % (4 * demuxExample.dim.toNat) = 0 ∧ ctrValid demuxExample.cpktCtr = true := by
  decide

theorem witness_DemuxServesEveryPort : ∃ t, exec .spDemux demuxExample = .next t ∧ t.err = .ok :=
  errOf_next (by decide +kernel)

theorem witness_SpMuxBuildsAPacket :
    errs .spMux [opened .tx, ready .rx, args (ready .tx) 0x10000 0 0, args (ready .tx) 0 0x10000 0,
      args (ready .tx) 8 0 0, args (ready .tx) 7 0xFFFF 0] =
      [some .eState, some .eState, some .eArg, some .eArg, some .eTooLong, some .ok] := by decide +kernel

/-- The table of a state with ports 0 and 1 only. -/
theorem twoPorts_get (s : State) (q0 q1 : Port)
    (h : s.ports = ((Vector.replicate 64 Port.empty).set 0 q0).set 1 q1) (p : Fin 64) :
    s.ports[p] = if p.val = 0 then q0 else if p.val = 1 then q1 else Port.empty := by
  rw [h]
  simp only [Fin.getElem_fin, Vector.getElem_set, Vector.getElem_replicate, eq_comm (b := p.val)]
  by_cases h0 : p.val = 0
  · simp [h0]
  · by_cases h1 : p.val = 1 <;> simp [h0, h1]

/-- A table of two ports in disjoint slots is sound. -/
theorem twoPorts_sound (s : State) (q0 q1 : Port)
    (h : s.ports = ((Vector.replicate 64 Port.empty).set 0 q0).set 1 q1) (h0 : q0.sound s) (h1 : q1.sound s)
    (hc : s.lc ≠ .closed) (hn : 2 ≤ s.params.nPorts) (hd : slotsOverlap q0.entry q1.entry = false)
    (hd' : slotsOverlap q1.entry q0.entry = false) : s.portsSound := by
  have he : entryValid Port.empty.entry = false := rfl
  refine ⟨fun p => ?_, fun p hp => ?_, fun _ p q hpq hp hq => ?_⟩
  · rw [twoPorts_get s q0 q1 h p]
    split
    · exact h0
    · split
      · exact h1
      · exact .inl rfl
  · rw [twoPorts_get s q0 q1 h p, if_neg, if_neg] <;>
    · intro _
      rcases hp with hp | hp
      · exact hc hp
      · omega
  · rw [twoPorts_get s q0 q1 h] at hp hq ⊢
    rw [twoPorts_get s q0 q1 h]
    have hv : p.val ≠ q.val := fun e => hpq (Fin.ext e)
    by_cases p0 : p.val = 0 <;> by_cases p1 : p.val = 1 <;> by_cases q0 : q.val = 0 <;> by_cases q1 : q.val = 1 <;>
      simp_all

/-- A port without messages, with an idle decoder and 24-bit samples, is sound if its queues fit and are of its kind. -/
theorem port_sound {s : State} {q : Port} (he : entrySound s.dir s.dim.toNat q.entry) (hm : q.md = MidiDecoder.idle)
    (hq : q.mq = []) (hl : q.pf.length ≤ s.params.portDepth ∧ q.eq.length ≤ s.params.midiTxDepth)
    (hk : (entryType q.entry = .midi → q.pf = []) ∧ (isMidiPort .tx q.entry = false → q.eq = []))
    (hv : (q.pf.all fun v => decide (v.toNat < 2 ^ 24)) = true) : q.sound s := by
  refine .inr ⟨he, hm ▸ ⟨.inl rfl, rfl, rfl⟩, hl.1, by simp [hq], hl.2, hk.1, fun _ => ⟨hq, hm⟩, hk.2, fun _ v hp => ?_,
    by simp [hq]⟩
  exact of_decide_eq_true (List.all_eq_true.mp hv v hp)

theorem muxExample_sound : (args muxExample 3 0x5123 0).portsSound :=
  twoPorts_sound _ { playbackAudio with pf := [0x123456, 0xABCDEF] } { playbackMidi with eq := [0xC0, 0x05] } rfl
    (port_sound (by unfold entrySound; decide) rfl rfl (by decide) (by decide) (by decide))
    (port_sound (by unfold entrySound; decide) rfl rfl (by decide) (by decide) (by decide)) (by decide) (by decide) (by decide) (by decide)

theorem demuxExample_sound : demuxExample.portsSound :=
  twoPorts_sound _ captureAudio captureMidi rfl
    (port_sound (by unfold entrySound; decide) rfl rfl (by decide) (by decide) (by decide))
    (port_sound (by unfold entrySound; decide) rfl rfl (by decide) (by decide) (by decide)) (by decide) (by decide) (by decide) (by decide)

theorem witness_MuxFillsEverySlot :
    (args muxExample 3 0x5123 0).portsSound ∧ ∃ t, exec .spMux (args muxExample 3 0x5123 0) = .next t ∧ t.err = .ok :=
  ⟨muxExample_sound, errOf_next (by decide +kernel)⟩

/-- The transmit stream that has been given the samples of R368's packet. -/
def remuxExample : State :=
  args (withPort (withPort (ready .tx) 0 { playbackAudio with pf := [0x123456, 0xABCDEF] }) 1 playbackMidi) 2 0xFFFF 0

theorem remuxExample_sound : remuxExample.portsSound :=
  twoPorts_sound _ { playbackAudio with pf := [0x123456, 0xABCDEF] } playbackMidi rfl
    (port_sound (by unfold entrySound; decide) rfl rfl (by decide) (by decide) (by decide))
    (port_sound (by unfold entrySound; decide) rfl rfl (by decide) (by decide) (by decide)) (by decide) (by decide) (by decide) (by decide)

theorem witness_MuxRebuildsTheDemultiplexedPacket :
    demuxExample.portsSound ∧ remuxExample.portsSound ∧ remuxExample.params = demuxExample.params ∧
    remuxExample.dim = demuxExample.dim ∧ remuxExample.tier = demuxExample.tier ∧
    remuxExample.opt = demuxExample.opt ∧
    (∀ p : Fin 64, remuxExample.ports[p].entry =
      if entryValid demuxExample.ports[p].entry then demuxExample.ports[p].entry ||| 2
      else demuxExample.ports[p].entry) ∧
    (∀ p : Fin 64, demuxExample.ports[p].pf = []) ∧
    after (fun t => decide (∀ p : Fin 64, entryType demuxExample.ports[p].entry ≠ .midi →
      remuxExample.ports[p].pf = t.ports[p].pf)) (exec .spDemux demuxExample) = some true ∧
    (∃ t, exec .spDemux demuxExample = .next t ∧ t.err = .ok) ∧ remuxExample.arg[0].toNat = 2 ∧
    ∃ v, exec .spMux remuxExample = .next v ∧ v.err = .ok :=
  ⟨demuxExample_sound, remuxExample_sound, by decide, by decide, by decide, by decide, by decide +kernel,
    by decide +kernel, by decide +kernel, errOf_next (by decide +kernel), by decide, errOf_next (by decide +kernel)⟩

theorem witness_MidiDecodeFeedsOneByte :
    errs .midiDecode [State.reset, args (opened .rx) 64 0 0, args (opened .rx) 0 256 0, opened .rx,
      withPort (opened .rx) 0 captureAudio, withPort (opened .tx) 0 playbackMidi,
      args (withPort (opened .rx) 63 captureMidi) 63 255 0] =
      [some .eState, some .eArg, some .eArg, some .ePort, some .ePort, some .ePort, some .ok] := by decide

/-- Every clause of the decoder's table at its first and last byte. -/
theorem witness_MidiDecoderFollowsTheTable :
    ([0xF8, 0xFF, 0xF0, 0xF4, 0xF5, 0xF7, 0xF6, 0xF1, 0xF2, 0xF3, 0x80, 0xEF, 0x00, 0x7F].map fun b =>
      (feedByte MidiDecoder.idle b).discards) = [0, 0, 1, 1, 1, 1, 0, 0, 0, 0, 0, 0, 1, 1] ∧
    ([0xC0, 0xDF, 0xBF, 0xE0].map fun r => (feedByte { MidiDecoder.idle with rsb := r } 0x7F).md.ms) =
      [.awaitStatus, .awaitStatus, .awaitData2, .awaitData2] ∧
    ([0xC0, 0xDF, 0xF1, 0xF3, 0xBF, 0xE0, 0xF2].map fun c =>
      (feedByte { MidiDecoder.idle with ms := .awaitData1, cur := c } 0).msg.isSome) =
      [true, true, true, true, false, false, false] ∧
    (feedByte { MidiDecoder.idle with ms := .awaitData2, cur := 0x90, d1 := 0x40 } 0x7F).msg = some 0x0390407F := by
  decide

theorem witness_MidiDecoderProperties :
    MidiDecoder.idle.ms = .awaitStatus ∧ MidiDecoder.idle.rsb = 0 ∧ MidiDecoder.idle.sound ∧
    ([0x80, 0xBF, 0xE0, 0xEF].map datalen) = [some 2, some 2, some 2, some 2] ∧
    ([0x0390407F, 0x02C00500, 0x01F60000, 0x01FF0000, 0x03F20102].all midiWordLegal) = true :=
  ⟨rfl, rfl, ⟨.inl rfl, rfl, rfl⟩, by decide, by decide⟩

theorem witness_MidiReadTakesTheOldestMessage :
    errs .midiRead [State.reset, args (opened .rx) 64 0 0, opened .rx, withPort (opened .rx) 0 captureAudio,
      withPort (opened .tx) 0 playbackMidi, withPort (opened .rx) 0 captureMidi,
      withPort (opened .rx) 0 { captureMidi with mq := [0x01F80000] }] =
      [some .eState, some .eArg, some .ePort, some .ePort, some .ePort, some .eUnderflow, some .ok] := by decide

theorem witness_MidiEncodeQueuesTheBytes :
    errs .midiEncode [State.reset, args (opened .tx) 64 0 0, opened .tx, withPort (opened .tx) 0 playbackAudio,
      withPort (opened .rx) 0 captureMidi, args (withPort (opened .tx) 0 playbackMidi) 0 0x0390807F 0,
      args (withPort { opened .tx with params := { Params.default with midiTxDepth := 3 } } 0
        { playbackMidi with eq := [0xF8] }) 0 0x0390407F 0,
      args (withPort { opened .tx with params := { Params.default with midiTxDepth := 3 } } 0 playbackMidi) 0
        0x0390407F 0] =
      [some .eState, some .eArg, some .ePort, some .ePort, some .ePort, some .eMidi, some .eOverflow, some .ok] := by
  decide

theorem witness_CyclesToTicksMultiplies :
    errs .ctCyclesToTicks [args State.reset 0 3072 0, args State.reset 0 3071 0] = [some .eArg, some .ok] := by decide

theorem witness_ReconstructFollowsTheAlgorithm :
    errs .ctReconstruct [args State.reset 0x10000 0 0, args State.reset 0 0 128, args State.reset 0 0x01F40000 0,
      args State.reset 0 0x00000C00 0, args State.reset 0x0C00 0 0, args State.reset 0xFBFF 0xFFF3FBFF 127] =
      [some .eArg, some .eArg, some .eArg, some .eArg, some .eArg, some .ok] := by decide

theorem witness_ReconstructionKeepsTheSyt : sytValid 0xFBFF = true ∧ ctrValid 0xFFF3FBFF = true := by decide

/-- Nibble 0 below cycle 15's, and below cycle 7999's (where the second is carried). -/
theorem witness_ReconstructionWrapsOnce :
    sytValid 0x0BFF = true ∧ ctrValid 0x0000F005 = true ∧ ctrValid 0xFFF3F000 = true ∧
    (sytNib 0x0BFF).toNat < (ctrCyc 0x0000F005).toNat % 16 ∧ (sytNib 0x0BFF).toNat < (ctrCyc 0xFFF3F000).toNat % 16 := by
  decide

theorem witness_ToTicksCountsEpochs :
    errs .ctToTicks [args State.reset 0x01F40000 0 0, args State.reset 0x00000C00 0 0, args State.reset 0xFFF3FBFF 0 0] =
      [some .eArg, some .eArg, some .ok] := by decide

theorem witness_TickConversionsInvert :
    after (fun t => (t.err, t.res[0], t.res[1])) (exec .ctToTicks (args State.reset 0xFFF3FBFF 0 0)) =
      some (.ok, 0xBB7FFFFF, 0) ∧
    after (fun v => v.res[0]) (exec .ctFromTicks (args State.reset 0xBB7FFFFF 0 0)) = some 0xFFF3FBFF ∧
    after (fun t => (t.res[1], t.res[2], t.res[3])) (exec .ctTicksToCycles (args State.reset 0xFFFFFFFF 0xBFF 0)) =
      some (3071, 0xFFFFFFFF, 0) ∧
    after (fun v => (v.res[0], v.res[1])) (exec .ctCyclesToTicks (args State.reset 0xFFFFFFFF 3071 0)) =
      some (0xFFFFFFFF, 0xBFF) := by decide

theorem witness_SytCheckReportsMismatchAndBackwardStep :
    errs .ctSytCheck [args State.reset 0x10000 0 0, args State.reset 0xFFFF 0 0] = [some .eArg, some .ok] := by decide

/-- A wrong channel, a packet one byte too short, one too long, a full ring, a packet stored. -/
theorem witness_IsoPutReceivesAPacket :
    (running .rx).lc = .running ∧ (running .rx).brp = false ∧ (running .rx).dir = .rx ∧
    ([(6, 8, 0), (5, 7, 0), (5, 65, 0), (5, 8, 4), (5, 64, 0)].map fun (x : BitVec 6 × Nat × BitVec 14) =>
      after (fun t => (t.counters.isoProto, t.counters.overflow, t.wIdx))
        (exec (.isoPut (List.replicate x.2.1 0) x.1 1 0 0 0 0) { running .rx with wIdx := x.2.2 })) =
      [some (1, 0, 0), some (1, 0, 0), some (1, 0, 0), some (0, 1, 4), some (0, 0, 1)] := by decide

/-- Too little room for a header, an empty ring, a packet one byte too long, one too short, a packet sent. -/
theorem witness_IsoGetSendsAPacket :
    (running .tx).lc = .running ∧ (running .tx).brp = false ∧ (running .tx).dir = .tx ∧
    faultOf (exec (.isoGet 0 0 7) (running .tx)) = some .ifMaxLen ∧
    after (fun t => t.counters.underflow) (exec (.isoGet 0 0 8) (running .tx)) = some 1 ∧
    after (fun t => t.counters.isoProto) (exec (.isoGet 0 0 23) (onePacket (running .tx) 24)) = some 1 ∧
    after (fun t => t.counters.isoProto) (exec (.isoGet 0 0 64) (onePacket (running .tx) 7)) = some 1 ∧
    after (fun t => (t.counters.isoProto, t.rIdx)) (exec (.isoGet 0 0 24) (onePacket (running .tx) 24)) = some (0, 1) := by
  decide

theorem witness_IsoGetAlwaysSendsALegalPacket : (running .tx).getEnabled = true ∧ 8 ≤ (8 : BitVec 16).toNat := by decide

theorem witness_BusResetAndResume :
    errs .resume [args State.reset 7 0 0, args (running .rx) 7 0 0, args { running .rx with brp := true } 64 0 0,
      args { running .rx with brp := true } 63 0 0] = [some .eState, some .eState, some .eArg, some .ok] ∧
    State.reset.lc = .closed ∧ (opened .rx).lc ≠ .closed := by decide

theorem witness_DisabledTransactionsDoNotOccur :
    (ready .rx).lc ≠ .running ∧ { running .rx with brp := true }.brp = true ∧ (running .tx).dir = .tx ∧
    (running .rx).dir = .rx := by decide

/-! #### Host accesses and steps -/

/-- The first and last register of each range of the map, and the reserved offsets beside them. -/
theorem witness_TheMapIsTheSpecs :
    ([0x0000, 0x0020, 0x0030, 0x004C, 0x0050, 0x005C, 0x00E4, 0x0100, 0x01FC, 0x0200, 0x02FC, 0x1000, 0x1FFC].map
      (csrAt Params.default)) =
      [some .id, some .cmd, some (.arg 0), some (.arg 7), some (.res 0), some (.res 3), some (.counter .sytmon),
        some (.port 0), some (.port 63), some (.portStat 0), some (.portStat 63), some (.txb 0), some (.txb 4092)] ∧
    ([0x0018, 0x001C, 0x00AC, 0x00BC, 0x00E8, 0x00FC, 0x0300, 0x0FFC, 0x0001, 0x1002, 0x2000].map (csrAt Params.default)) =
      List.replicate 11 none := by decide

/-- The offsets of the registers a read's clauses speak of. -/
theorem witness_HostReadsHaveNoSideEffect :
    ([.id, .param0, .param1, .param2, .param3, .param4, .cmd, .status, .chan, .dim, .arg 0, .arg 7, .res 0, .res 3,
      .supported, .txCip, .txIso, .dbcTx, .rbHdrSize, .rbCap, .rbMaxPkt, .rbWIdx, .rbRIdx, .cpktLen, .cpktMeta, .cpktCtr,
      .lastCip0, .lastCip1, .lastTs, .sytmonLast, .ctLastSec, .ctEpoch, .isoDbcNext, .counter .overflow,
      .counter .underflow, .counter .isoProto, .counter .llDropped, .counter .busReset, .counter .proto,
      .counter .portOvf, .counter .portUnf, .counter .midiDiscard, .counter .sytmon, .port 0, .port 63, .portStat 0,
      .portStat 63, .txb 0, .txb 4092].all fun r =>
        csrExists Params.default r && decide (csrOffset r < 8192)) = true ∧
    (asks demuxExample (.hostRead 32 0x1000)).input = .hostRead 32 0x1000 :: [] ∧
    lookupAt demuxExample.txb 3 = some 0x10 ∧ demuxExample.params.legal := by decide

/-- R63, R67: PORT[0] of R368's example, present in every configuration, reads with ENABLED set, and an entry present in
none reads with ENABLED clear. -/
theorem test_port_csr :
    demuxExample.readCsr (.port 0) = 0x07FC0121 ∧
    (withPort (ready .rx) 63 { Port.empty with entry := 0x00000101 }).readCsr (.port 63) = 0x00000101 := by decide

/-- R64: a MIDI capture port with two messages queued, in AwaitingData2 with running status 0x90. -/
theorem test_portstat_csr :
    (withPort (ready .rx) 1 { captureMidi with
      mq := [0x01FA0000, 0x01F80000], md := { ms := .awaitData2, rsb := 0x90, cur := 0x90, d1 := 0x40 } }).readCsr
        (.portStat 1) = 0x90020002 := by decide

theorem witness_BadAccessesGetABusError :
    ([(16, 0x0000), (32, 0x0002), (32, 0x0018), (32, 0x1000 + 4096), (32, 0x1000000)].map fun (x : Nat × Nat) =>
      after (fun t => t.resp) (step (asks State.reset (.hostRead x.1 x.2)))) = List.replicate 5 (some .busError) ∧
    ([(16, 0x0030, 0), (32, 0x0031, 0), (32, 0x0018, 0), (32, 0x2020, 1), (32, 0x0024, 0), (32, 0x0060, 0x200),
      (32, 0x0064, 0x40), (32, 0x0064, 0x4000), (32, 0x0064, 0x1000000), (32, 0x0068, 4), (32, 0x0068, 0x100)].map
        fun (x : Nat × Nat × Word) =>
          after (fun t => t.resp) (step (asks State.reset (.hostWrite x.1 x.2.1 x.2.2)))) =
      List.replicate 11 (some .busError) ∧
    after (fun t => t.resp) (step (asks (running .rx) (.hostWrite 32 0x0068 0x31))) = some .busError := by decide

theorem witness_HostWritesStoreTheValue :
    ([(0x0030, 0xFFFFFFFF), (0x004C, 1), (0x0060, 0x1FF), (0x0064, 0x00FF3F3F), (0x0068, 0xF3), (0x1000, 7),
      (0x1FFC, 7)].map fun (x : Nat × Word) =>
        after (fun t => t.resp) (step (asks (ready .tx) (.hostWrite 32 x.1 x.2)))) = List.replicate 7 (some .written) := by
  decide

theorem witness_SyncCopiesOneRegister :
    after (fun t => (t.wAtC, t.rIdx)) (step (asks { ready .rx with wIdx := 1 } (.sync .w))) = some (1, 0) := by decide

theorem witness_HardwareResetClearsTheBlock :
    Params.default.legal ∧ csrResetValue Params.default .txIso = some 1 ∧
    after (fun t => (t.lc, t.chan)) (step (asks (running .tx) .hwReset)) = some (.closed, 0) := by decide

/-- An ISO_PUT of more than R185's 65535 bytes is refused. -/
theorem overlong_put_refused (data : List Byte) (h : 65535 < data.length) :
    step (asks State.reset (.iso { IsoRecord.blank 0 with data := data })) = .refused .noSuchTransaction := by
  have hl : ¬data.length ≤ maxIsoLength := by rw [maxIsoLength]; omega
  have hd : decodeIso { IsoRecord.blank 0 with data := data } = .error .lengthOutOfRange := by
    simp [decodeIso, IsoRecord.blank, hl]
  simp only [step, asks, State.perform, State.isoTransaction, hd]

theorem witness_OnlyTheInterfaceFaultsStop :
    faultOf (step (asks State.reset (.iso (IsoRecord.blank 3)))) = some .ifKind ∧
    faultOf (step (asks (running .tx) (.iso { IsoRecord.blank 1 with maxLength := 7 }))) = some .ifMaxLen ∧
    step (asks State.reset (.iso { IsoRecord.blank 0 with data := List.replicate 65536 0 })) =
      .refused .noSuchTransaction :=
  ⟨by decide, by decide, overlong_put_refused _ (by simp only [List.length_replicate]; decide)⟩

theorem witness_CommandsEndWithTheirOwnErrors :
    decodeCmd 0x11 = .ok .rbGet ∧ decodeIso (IsoRecord.blank 2) = .ok .isoBusReset ∧
    errOf (exec .isoBusReset (running .rx)) = some .ok := by decide

/-- Each of the five ends with an error. -/
theorem witness_ErrorsArePrecise :
    decodeCmd 0x10 = .ok .rbAdd ∧ decodeCmd 0x11 = .ok .rbGet ∧ decodeCmd 0x18 = .ok .spDemux ∧
    decodeCmd 0x02 = .ok .init ∧
    [errOf (exec .rbAdd (args { ready .tx with wIdx := 4 } 8 0 0)), errOf (exec .rbGet (args (ready .rx) 64 0 0)),
      errOf (exec .spDemux { demuxExample with dim := 3 }), errOf (exec .init (args (opened .rx) 8 8192 16)),
      errOf (exec .stop (ready .rx))] =
      [some .eOverflow, some .eUnderflow, some .eProtoDim, some .eResource, some .eState] := by decide

theorem witness_IsoWritesOnlyItsOwnDomain :
    decodeIso (IsoRecord.blank 0) = .ok (.isoPut [] 0 0 0 0 0 0) ∧
    (∃ t, exec (.isoPut [] 0 0 0 0 0 0) (running .rx) = .next t ∧ t.err = .ok) ∧ (running .rx).dir = .rx ∧
    (∃ t, exec (.isoPut [] 0 0 0 0 0 0) { running .tx with brp := true } = .next t ∧ t.err = .ok) :=
  ⟨by decide, errOf_next (by decide), by decide, errOf_next (by decide)⟩

/-- One step along each arrow. -/
theorem witness_LifecycleFollowsItsDiagram :
    ([(State.reset, .openStream), (args (opened .rx) 8 4 64, .init), (args (opened .rx) 8 8192 16, .init),
      (ready .rx, .start), ({ ready .rx with lc := .stopped }, .start), (running .rx, .stop), (opened .rx, .close)].map
        fun (x : State × Instr) => (after (fun t => t.lc) (exec x.2 (args x.1 x.1.arg[0]
          (if x.2 = .openStream then 0 else x.1.arg[1]) (if x.2 = .openStream then 1 else x.1.arg[2]))))) =
      [some .opened, some .ready, some .closed, some .running, some .running, some .stopped, some .closed] ∧
    after (fun t => t.lc) (step (asks (running .rx) .hwReset)) = some .closed ∧
    after (fun t => t.lc) (step (asks (running .rx) (.hostWrite 32 cmdOffset 4))) = some .stopped := by decide

/-- A step that changes each of the registers. -/
theorem witness_OnlyItsCommandWritesARegister :
    after (fun t => (t.dim, t.chan)) (step (asks (args State.reset 5 0 2) (.hostWrite 32 cmdOffset 1))) = some (2, 5) ∧
    after (fun t => t.cap) (step (asks (args (opened .rx) 8 4 64) (.hostWrite 32 cmdOffset 2))) = some 4 ∧
    after (fun t => t.opt) (step (asks (args { State.reset with supported := 9 } 0 1 0) (.hostWrite 32 cmdOffset 8))) =
      some .adat ∧
    after (fun t => t.ctHave) (step (asks State.reset (.hostWrite 32 cmdOffset 0x2B))) = some true ∧
    after (fun t => (t.supported, t.arg[7])) (step (asks State.reset (.hostWrite 32 0x60 7))) = some (7, 0) ∧
    after (fun t => (t.txCip, t.txIso)) (step (asks (ready .tx) (.hostWrite 32 0x64 7))) = some (7, 1) := by decide

/-! #### Invariants -/

theorem witness_ResetKeepsTheInvariants : Params.default.legal := by decide

theorem witness_StepKeepsTheMemoriesCanonical :
    (asks (onePacket (ready .rx) 24) (.sync .r)).memoriesCanonical ∧
    ∃ t, step (asks (onePacket (ready .rx) 24) (.sync .r)) = .next t ∧ t.err = .ok :=
  ⟨by unfold State.memoriesCanonical; decide, errOf_next (by decide)⟩

theorem witness_StepKeepsTheRegistersInForm :
    (asks demuxExample (.sync .w)).reservedBitsClear ∧ (asks demuxExample (.sync .w)).fetchedHeld ∧
    ∃ t, step (asks demuxExample (.sync .w)) = .next t ∧ t.err = .ok :=
  ⟨by unfold State.reservedBitsClear; decide, fun _ => ⟨rfl, rfl, by decide⟩, errOf_next (by decide)⟩

theorem witness_StepKeepsTheRingSafe :
    (onePacket (ready .tx) 64).ringSafe ∧ ∃ t, step (onePacket (ready .tx) 64) = .next t ∧ t.err = .ok :=
  ⟨onePacket_ringSafe _ _ (by decide), errOf_next (by decide)⟩

theorem witness_StepKeepsThePortsSound :
    demuxExample.portsSound ∧ ∃ t, step demuxExample = .next t ∧ t.err = .ok :=
  ⟨demuxExample_sound, errOf_next (by decide)⟩

/-- The ring's invariant does not look at the operands, at the packet's place or at the lifecycle beyond readiness. -/
theorem ringSafe_running {s : State} {a : Vector Word 8} (h : s.ringSafe) (hr : s.lc = .ready) :
    { s with lc := .running, arg := a }.ringSafe := by
  obtain ⟨h1, h2, h3⟩ := h
  unfold State.ringConfigured at h1
  unfold State.indicesOrdered at h2
  rw [hr] at h1 h2
  exact ⟨h1, h2, h3⟩

theorem witness_TheRingIsAQueue :
    (args { onePacket (ready .tx) 24 with lc := .running } 8 0 0).ringSafe ∧
    (∃ t, exec .rbAdd (args { onePacket (ready .tx) 24 with lc := .running } 8 0 0) = .next t ∧ t.err = .ok) ∧
    (∃ t, exec (.isoPut (List.replicate 8 0) 5 1 0 0 0 0) { onePacket (ready .rx) 24 with lc := .running } = .next t ∧
      t.err = .ok) ∧
    (args { onePacket (ready .rx) 24 with lc := .running } 24 0 0).ringSafe ∧
    (∃ t, exec .rbGet (args { onePacket (ready .rx) 24 with lc := .running } 24 0 0) = .next t ∧ t.err = .ok) ∧
    { onePacket (ready .tx) 24 with lc := .running }.getEnabled = true ∧
    ∃ t, exec (.isoGet 0 0 24) { onePacket (ready .tx) 24 with lc := .running } = .next t ∧ t.err = .ok :=
  ⟨ringSafe_running (s := onePacket (ready .tx) 24) (onePacket_ringSafe _ _ (by decide)) rfl, errOf_next (by decide), errOf_next (by decide),
    ringSafe_running (s := onePacket (ready .rx) 24) (onePacket_ringSafe _ _ (by decide)) rfl, errOf_next (by decide), by decide,
    errOf_next (by decide)⟩

end Sys2Proof.Tests
end

section
/-! PROOFS. The CSR map read both ways (R52), for O43 and O4. -/

namespace Sys2Proof.Machine

/-! ### The CSR map (R52) -/

/-- The single registers exist whatever the parameters and stand at their offset of R52. -/
theorem csrTable_sound (p : Params) : ∀ x ∈ csrTable, csrExists p x.2 = true ∧ csrOffset x.2 = x.1 := by
  simp [csrTable, csrExists, csrOffset]

/-- The single registers leave room for ARG and RES below 0x60, and end below 0x100 (R52). -/
theorem csrTable_keys : ∀ x ∈ csrTable, x.1 < 0x0030 ∨ (0x0060 ≤ x.1 ∧ x.1 < 0x0100) := by decide

theorem csrTable_lookup_sound (p : Params) {off : Nat} {r : Csr} (h : csrTable.lookup off = some r) :
    csrExists p r = true ∧ csrOffset r = off := by
  obtain ⟨l, m, hl, -⟩ := List.lookup_eq_some_iff.mp h
  exact csrTable_sound p (off, r) (by simp [hl])

theorem csrTable_lookup_none {off : Nat} (h : (0x0030 ≤ off ∧ off < 0x0060) ∨ 0x0100 ≤ off) :
    csrTable.lookup off = none := by
  refine List.lookup_eq_none_iff.mpr fun x hx => ?_
  have := csrTable_keys x hx
  rw [bne_iff_ne]
  omega

/-- An offset that names a register is the register's own (R52, R131). -/
theorem csrAt_sound {p : Params} {off : Nat} {r : Csr} (h : csrAt p off = some r) :
    csrExists p r = true ∧ csrOffset r = off := by
  unfold csrAt at h
  split at h
  · cases h
  · next halign =>
    split at h
    · next hr =>
      cases h
      exact csrTable_lookup_sound p hr
    · split at h
      · cases h
        exact ⟨rfl, by simp only [csrOffset, Fin.val_ofNat]; omega⟩
      · split at h
        · cases h
          exact ⟨rfl, by simp only [csrOffset, Fin.val_ofNat]; omega⟩
        · split at h
          · cases h
            simp only [csrExists, csrOffset, Fin.val_ofNat, decide_eq_true_eq]
            omega
          · split at h
            · cases h
              simp only [csrExists, csrOffset, Fin.val_ofNat, decide_eq_true_eq]
              omega
            · split at h
              · cases h
                simp only [csrExists, csrOffset, decide_eq_true_eq]
                omega
              · cases h

/-- The place in a bank of words at `base` gives the bank's index back. -/
theorem bankIndex {n : Nat} [NeZero n] (base : Nat) (i : Fin n) : Fin.ofNat n ((base + 4 * i.val - base) / 4) = i := by
  ext
  rw [Fin.val_ofNat, Nat.add_sub_cancel_left, Nat.mul_div_cancel_left _ (by decide), Nat.mod_eq_of_lt i.isLt]

theorem csrAt_arg (p : Params) (i : Fin 8) : csrAt p (0x0030 + 4 * i.val) = some (.arg i) := by
  rw [csrAt, if_neg (by omega), csrTable_lookup_none (by omega)]
  dsimp only
  rw [if_pos (by omega), bankIndex]

theorem csrAt_res (p : Params) (i : Fin 4) : csrAt p (0x0050 + 4 * i.val) = some (.res i) := by
  rw [csrAt, if_neg (by omega), csrTable_lookup_none (by omega)]
  dsimp only
  rw [if_neg (by omega), if_pos (by omega), bankIndex]

theorem csrAt_port {p : Params} {q : Fin 64} (hq : q.val < p.nPorts) :
    csrAt p (0x0100 + 4 * q.val) = some (.port q) := by
  rw [csrAt, if_neg (by omega), csrTable_lookup_none (by omega)]
  dsimp only
  rw [if_neg (by omega), if_neg (by omega), if_pos (by omega), bankIndex]

theorem csrAt_portStat {p : Params} {q : Fin 64} (hq : q.val < p.nPorts) :
    csrAt p (0x0200 + 4 * q.val) = some (.portStat q) := by
  rw [csrAt, if_neg (by omega), csrTable_lookup_none (by omega)]
  dsimp only
  rw [if_neg (by omega), if_neg (by omega), if_neg (by omega), if_pos (by omega), bankIndex]

theorem csrAt_txb {p : Params} {a : Nat} (ha : a < p.maxPktLimit) (halign : a % 4 = 0) :
    csrAt p (0x1000 + a) = some (.txb a) := by
  rw [csrAt, if_neg (by omega), csrTable_lookup_none (by omega)]
  dsimp only
  rw [if_neg (by omega), if_neg (by omega), if_neg (by omega), if_neg (by omega), if_pos (by omega),
    Nat.add_sub_cancel_left]

/-- Every register that exists is found at its offset (R52). -/
theorem csrAt_csrOffset {p : Params} {r : Csr} (h : csrExists p r = true) : csrAt p (csrOffset r) = some r := by
  cases r with
  | arg i => exact csrAt_arg p i
  | res i => exact csrAt_res p i
  | port q => exact csrAt_port (of_decide_eq_true h)
  | portStat q => exact csrAt_portStat (of_decide_eq_true h)
  | txb a =>
    obtain ⟨ha, halign⟩ := of_decide_eq_true h
    exact csrAt_txb ha halign
  | counter k => cases k <;> rfl
  | _ => rfl

/-- An offset names CMD exactly if it is CMD's (R53). -/
theorem csrAt_cmd {p : Params} {off : Nat} : csrAt p off = some .cmd ↔ off = cmdOffset :=
  ⟨fun h => (csrAt_sound h).2.symm, fun h => h ▸ csrAt_csrOffset (r := .cmd) rfl⟩

/-! ### Requests performed -/

theorem step_of_idle {s : State} (h : s.input = []) : step s = .next s := by
  rw [step, h]

theorem step_of_request {s : State} {q : Request} {rest : List Request} (h : s.input = q :: rest) :
    step s = (s.begin rest).perform q := by
  rw [step, h]

theorem State.hostWrite_cmd (s : State) (w : Word) : s.hostWrite 32 cmdOffset w = s.writeCmd w := by
  rw [State.hostWrite, if_neg (by decide), csrAt_cmd.mpr rfl]

theorem State.writeCmd_of_decode {s : State} {w : Word} {i : Instr} (h : decodeCmd w = .ok i) :
    s.writeCmd w = exec i ({ s with cmd := w }.answer .written) := by
  rw [State.writeCmd, h]

theorem State.isoTransaction_of_decode {s : State} {r : IsoRecord} {i : Instr} (h : decodeIso r = .ok i) :
    s.isoTransaction r = exec i s := by
  rw [State.isoTransaction, h]

end Sys2Proof.Machine
end

section
open Sys2Proof Sys2Proof.Machine

/-- Settles O43. -/
theorem theMapIsTheSpecs : Obligations.TheMapIsTheSpecs := by
  intro p off r
  constructor
  · exact csrAt_sound
  · rintro ⟨hexists, rfl⟩
    exact csrAt_csrOffset hexists

/-- Settles O4: the request is taken off the list, and writing CMD or presenting the transaction runs what it decodes to. -/
theorem stepRunsTheDecodedInstruction : Obligations.StepRunsTheDecodedInstruction := by
  refine ⟨fun s w i rest hin hi => ?_, fun s r i rest hin hi => ?_, fun s hin => step_of_idle hin⟩
  · rw [step_of_request hin]
    exact ((s.begin rest).hostWrite_cmd w).trans (State.writeCmd_of_decode hi)
  · rw [step_of_request hin]
    exact State.isoTransaction_of_decode hi

end

section
/-! PROOFS. What an ISO transaction changes (R43), for O52. -/

namespace Sys2Proof.Machine

/-- The instructions that a transaction of the ISO interface can be (R185). -/
theorem decodeIso_ok {r : IsoRecord} {i : Instr} (h : decodeIso r = .ok i) :
    (∃ data channel tag sy cycle dropped ctr, i = .isoPut data channel tag sy cycle dropped ctr) ∨
    (∃ cycle dropped maxLength, i = .isoGet cycle dropped maxLength) ∨ i = .isoBusReset := by
  unfold decodeIso at h
  split at h
  · split at h
    · cases h
      exact .inl ⟨_, _, _, _, _, _, _, rfl⟩
    · cases h
  · split at h
    · cases h
      exact .inr (.inl ⟨_, _, _, rfl⟩)
    · split at h
      · cases h
        exact .inr (.inr rfl)
      · cases h

/-- `t` is `s` but for what a producer in the ISO domain owns: three counters and the write side of the ring. -/
def ProducedOnly (s t : State) : Prop :=
  t = { s with
    counters := { s.counters with
      overflow := t.counters.overflow, isoProto := t.counters.isoProto, llDropped := t.counters.llDropped }
    wIdx := t.wIdx, ring := t.ring, slotMeta := t.slotMeta, resp := t.resp }

/-- `t` is `s` but for what a consumer in the ISO domain owns: three counters, the read index and ISO_DBC_NEXT. -/
def ConsumedOnly (s t : State) : Prop :=
  t = { s with
    counters := { s.counters with
      underflow := t.counters.underflow, isoProto := t.counters.isoProto, llDropped := t.counters.llDropped }
    rIdx := t.rIdx, isoDbcNext := t.isoDbcNext, resp := t.resp }

theorem ProducedOnly.values {s t : State} (h : ProducedOnly s t) :
    ∃ overflow isoProto llDropped wIdx ring slotMeta resp,
      t = { s with counters := { s.counters with overflow, isoProto, llDropped }, wIdx, ring, slotMeta, resp } :=
  ⟨_, _, _, _, _, _, _, h⟩

theorem ConsumedOnly.values {s t : State} (h : ConsumedOnly s t) :
    ∃ underflow isoProto llDropped rIdx isoDbcNext resp,
      t = { s with counters := { s.counters with underflow, isoProto, llDropped }, rIdx, isoDbcNext, resp } :=
  ⟨_, _, _, _, _, _, h⟩

/-- ISO_PUT acts only in a receive stream, and there only as the producer (R310, R315). -/
theorem execIsoPut_frame {s t : State} {data : List Byte} {channel : BitVec 6} {tag : BitVec 2} {sy : BitVec 4}
    {cycle : BitVec 13} {dropped ctr : Word} (h : execIsoPut data channel tag sy cycle dropped ctr s = .next t) :
    t = s.answer .notEnabled ∨ (s.dir = .rx ∧ ProducedOnly s t) := by
  rcases execIsoPut_cases h with rfl | ⟨hen, rfl⟩
  · exact .inl rfl
  · have hdir : s.dir = .rx := by simp only [State.putEnabled, Bool.and_eq_true, decide_eq_true_eq] at hen; exact hen.2
    refine .inr ⟨hdir, ?_⟩
    rcases (s.addTo .llDropped dropped).receive_cases data channel tag sy cycle ctr with h | ⟨-, h⟩ | ⟨-, -, -, -, h⟩ <;>
      rw [h] <;> rfl

/-- ISO_GET acts only in a transmit stream, and there only as the consumer (R311, R315). -/
theorem execIsoGet_frame {s t : State} {cycle : BitVec 13} {dropped : Word} {maxLength : BitVec 16}
    (h : execIsoGet cycle dropped maxLength s = .next t) :
    t = s.answer .notEnabled ∨ (s.dir = .tx ∧ ConsumedOnly s t) := by
  rcases execIsoGet_cases h with rfl | ⟨hen, -, r, rfl⟩
  · exact .inl rfl
  · have hdir : s.dir = .tx := by simp only [State.getEnabled, Bool.and_eq_true, decide_eq_true_eq] at hen; exact hen.2
    refine .inr ⟨hdir, ?_⟩
    rcases (s.addTo .llDropped dropped).transmit_cases maxLength.toNat with ⟨-, h⟩ | ⟨-, h⟩ | ⟨-, -, -, h⟩ <;>
      rw [h] <;> rfl

end Sys2Proof.Machine
end

section
open Sys2Proof Sys2Proof.Machine

/-- Settles O52, by the frame of each transaction: ISO_PUT is the producer of a receive stream, ISO_GET the consumer of a
transmit stream, and the bus reset only sets BRP and counts. -/
theorem isoWritesOnlyItsOwnDomain : Obligations.IsoWritesOnlyItsOwnDomain := by
  intro r i s t hi h
  rcases decodeIso_ok hi with ⟨data, channel, tag, sy, cycle, dropped, ctr, rfl⟩ | ⟨cycle, dropped, maxLength, rfl⟩ | rfl
  · rcases execIsoPut_frame h with rfl | ⟨hrx, hf⟩
    · exact ⟨_, _, _, _, _, rfl, id, fun _ => ⟨rfl, rfl, rfl⟩, fun _ => ⟨rfl, rfl, rfl, rfl⟩⟩
    · obtain ⟨_, _, _, _, _, _, _, rfl⟩ := hf.values
      exact ⟨_, _, _, _, _, rfl, id, fun _ => ⟨rfl, rfl, rfl⟩, fun htx => absurd (hrx.symm.trans htx) (by decide)⟩
  · rcases execIsoGet_frame (cycle := cycle) h with rfl | ⟨htx, hf⟩
    · exact ⟨_, _, _, _, _, rfl, id, fun _ => ⟨rfl, rfl, rfl⟩, fun _ => ⟨rfl, rfl, rfl, rfl⟩⟩
    · obtain ⟨_, _, _, _, _, _, rfl⟩ := hf.values
      exact ⟨_, _, _, _, _, rfl, id, fun hrx => absurd (hrx.symm.trans htx) (by decide), fun _ => ⟨rfl, rfl, rfl, rfl⟩⟩
  · rcases execIsoBusReset_cases h with rfl | ⟨-, rfl⟩
    · exact ⟨_, _, _, _, _, rfl, id, fun _ => ⟨rfl, rfl, rfl⟩, fun _ => ⟨rfl, rfl, rfl, rfl⟩⟩
    · exact ⟨_, _, _, _, _, rfl, fun _ => rfl, fun _ => ⟨rfl, rfl, rfl⟩, fun _ => ⟨rfl, rfl, rfl, rfl⟩⟩

end

section
/-! PROOFS. Which registers a command, and a step, may change: the control registers as one record, the moves an
instruction makes of it, and the moves of a step. For O53, O54 and O57. -/

namespace Sys2Proof.Machine

/-! ### The control registers -/

/-- The registers that say how the block is set up and what the next command works on: the parameters, the operands, the
lifecycle, the stream's and the ring's configuration, the host's settings, the tick extension, and the packet fetched
into TXB. -/
structure Control where
  params : Params
  arg : Vector Word 8
  cmd : Word
  lc : Lifecycle
  dir : Direction
  chan : BitVec 6
  dim : BitVec 8
  hdrSize : BitVec 13
  cap : BitVec 14
  maxPkt : BitVec 13
  tier : Tier
  opt : OptMode
  ctHave : Bool
  ctLastSec : BitVec 7
  ctEpoch : Word
  supported : Word
  txCip : Word
  txIso : Word
  cpktValid : Bool
  cpktLen : BitVec 13
  txb : Memory

/-- The control registers of a state. -/
def State.control (s : State) : Control :=
  { params := s.params, arg := s.arg, cmd := s.cmd, lc := s.lc, dir := s.dir, chan := s.chan, dim := s.dim,
    hdrSize := s.hdrSize, cap := s.cap, maxPkt := s.maxPkt, tier := s.tier, opt := s.opt, ctHave := s.ctHave,
    ctLastSec := s.ctLastSec, ctEpoch := s.ctEpoch, supported := s.supported, txCip := s.txCip, txIso := s.txIso,
    cpktValid := s.cpktValid, cpktLen := s.cpktLen, txb := s.txb }

theorem refusedAs.control {s t : State} (h : refusedAs s t) : t.control = s.control := by
  obtain ⟨e, -, rfl⟩ := h
  rfl

theorem sameButResults.control {s t : State} (h : sameButResults s t) : t.control = s.control := by
  rw [h]
  rfl

theorem sameButPorts.control {s t : State} (h : sameButPorts s t) : t.control = s.control := by
  rw [h]
  rfl

theorem ProducedOnly.control {s t : State} (h : ProducedOnly s t) : t.control = s.control := by
  rw [h]
  rfl

theorem ConsumedOnly.control {s t : State} (h : ConsumedOnly s t) : t.control = s.control := by
  rw [h]
  rfl

theorem State.demuxPacket_control (s : State) (N : Nat) :
    (s.demuxPacket N).control = { s.control with cpktValid := false } := by
  rw [State.demuxPacket_frame]
  rfl

theorem State.muxPacket_control (s : State) (N : Nat) (y : BitVec 16) :
    (s.muxPacket N y).control = { s.control with txb := (s.muxPacket N y).txb } := by
  rw [State.muxPacket_frame]
  rfl

theorem State.gotPacket_control (s : State) :
    s.gotPacket.control =
      { s.control with cpktValid := true, cpktLen := s.headMeta.len, txb := writeBytes s.txb 0 s.headBytes } := by
  simp [State.control, State.gotPacket, State.fetchPacket]

/-! ### The moves of an instruction -/

/-- What instruction `i`, ending with `STATUS.ERR = e`, does to the control registers: nothing, or what only it may do. -/
inductive ControlMove : Instr → ErrCode → Control → Control → Prop
  | keeps (i : Instr) (e : ErrCode) (c : Control) : ControlMove i e c c
  /-- OPEN (R331). -/
  | opens (c : Control) (ch : BitVec 6) (d : Direction) (dim : BitVec 8) (hlc : c.lc = .closed) :
    ControlMove .openStream .ok c
      { c with lc := .opened, chan := ch, dir := d, dim := dim, cpktValid := false, cpktLen := 0 }
  /-- INIT (R332). -/
  | inits (c : Control) (hdr : BitVec 13) (cap : BitVec 14) (maxpkt : BitVec 13) (hlc : c.lc = .opened) :
    ControlMove .init .ok c { c with lc := .ready, hdrSize := hdr, cap := cap, maxPkt := maxpkt }
  /-- INIT without the RAM it asks for (R332, R337). -/
  | failsInit (c : Control) (hlc : c.lc = .opened) :
    ControlMove .init .eResource c { c with lc := .closed, hdrSize := 0, cap := 0, maxPkt := 0, cpktValid := false }
  /-- START (R333). -/
  | starts (c : Control) (hlc : c.lc = .ready ∨ c.lc = .stopped) : ControlMove .start .ok c { c with lc := .running }
  /-- STOP (R334). -/
  | stops (c : Control) (hlc : c.lc = .running) : ControlMove .stop .ok c { c with lc := .stopped }
  /-- CLOSE (R335, R337). -/
  | closes (c : Control) (hlc : c.lc = .opened ∨ c.lc = .ready ∨ c.lc = .stopped) :
    ControlMove .close .ok c { c with lc := .closed, hdrSize := 0, cap := 0, maxPkt := 0, cpktValid := false }
  /-- RESUME (R336). -/
  | resumes (c : Control) (ch : BitVec 6) : ControlMove .resume .ok c { c with chan := ch }
  /-- SET_CONFIG (R361). -/
  | configures (c : Control) (tier : Tier) (opt : OptMode) :
    ControlMove .setConfig .ok c { c with tier := tier, opt := opt }
  /-- CT_TO_TICKS (R239). -/
  | extendsTicks (c : Control) (epoch : Word) (sec : BitVec 7) :
    ControlMove .ctToTicks .ok c { c with ctEpoch := epoch, ctLastSec := sec, ctHave := true }
  /-- RB_GET (R272): the packet's bytes `bs` go to TXB. -/
  | fetches (c : Control) (len : BitVec 13) (bs : List Byte) (hready : c.lc.ringReady = true) (hdir : c.dir = .rx)
    (hlen : bs.length = len.toNat) :
    ControlMove .rbGet .ok c { c with cpktValid := true, cpktLen := len, txb := writeBytes c.txb 0 bs }
  /-- SP_DEMUX, with or without a protocol error (R366). -/
  | demuxes (c : Control) (e : ErrCode) : ControlMove .spDemux e c { c with cpktValid := false }
  /-- SP_MUX (R370). -/
  | muxes (c : Control) (txb : Memory) (hdir : c.dir = .tx) : ControlMove .spMux .ok c { c with txb := txb }

theorem ControlMove.of_eq {i : Instr} {e : ErrCode} {c d : Control} (h : d = c) : ControlMove i e c d :=
  h ▸ .keeps i e c

/-- A meaning that is refused or keeps the control registers makes no move. -/
theorem ControlMove.of_refused_or {i : Instr} {e : ErrCode} {s t : State} {P : Prop} (h : refusedAs s t ∨ P)
    (hP : P → t.control = s.control) : ControlMove i e s.control t.control :=
  .of_eq (h.elim refusedAs.control hP)

theorem execInit_control {s t : State} (h : execInit s = .next t) : ControlMove .init t.err s.control t.control := by
  rcases execInit_cases h with h | ⟨hlc, rfl⟩ | ⟨hlc, hdr, cap, maxpkt, -, -, rfl⟩
  · exact .of_eq h.control
  · exact .failsInit s.control hlc
  · exact .inits s.control hdr cap maxpkt hlc

theorem execRbAdd_control {s t : State} (h : execRbAdd s = .next t) : t.control = s.control := by
  rcases execRbAdd_cases h with h | ⟨-, rfl⟩ | ⟨-, -, -, len, -, -, rfl⟩
  · exact h.control
  · rfl
  · rfl

theorem execRbGet_control {s t : State} (h : execRbGet s = .next t) : ControlMove .rbGet t.err s.control t.control := by
  rcases execRbGet_cases h with h | ⟨-, rfl⟩ | ⟨hready, hdir, -, rfl⟩
  · exact .of_eq h.control
  · exact .keeps _ _ _
  · rw [State.gotPacket_control]
    exact .fetches s.control s.headMeta.len s.headBytes hready hdir s.headBytes_length

theorem execSpDemux_control {s t : State} (h : execSpDemux s = .next t) :
    ControlMove .spDemux t.err s.control t.control := by
  rcases execSpDemux_cases h with h | ⟨-, -, -, ⟨e, -, rfl | rfl⟩ | ⟨N, -, rfl⟩⟩
  · exact .of_eq h.control
  · exact .demuxes s.control e
  · exact .demuxes s.control e
  · have hc : ((s.parseHeader.demuxPacket N).raise .ok).control = { s.control with cpktValid := false } :=
      State.demuxPacket_control s.parseHeader N
    rw [hc]
    exact .demuxes _ _

theorem execSpMux_control {s t : State} (h : execSpMux s = .next t) : ControlMove .spMux t.err s.control t.control := by
  rcases execSpMux_cases h with h | ⟨-, hdir, n, y, v, -, rfl⟩
  · exact .of_eq h.control
  · have hc : (((s.muxPacket n.toNat y).withRes 0 v).raise .ok).control =
        { s.control with txb := (s.muxPacket n.toNat y).txb } := State.muxPacket_control s n.toNat y
    rw [hc]
    exact .muxes s.control _ hdir

theorem execMidiDecode_control {s t : State} (h : execMidiDecode s = .next t) : t.control = s.control := by
  rcases execMidiDecode_cases h with h | ⟨-, p, b, v, w, -, -, rfl⟩
  · exact h.control
  · exact (sameButPorts_midiFeed s p b).control

/-- Every instruction that has a next state makes one of the moves, said once for all later statements about the control
registers. -/
theorem exec_controlMove {i : Instr} {s t : State} (h : exec i s = .next t) :
    ControlMove i t.err s.control t.control := by
  cases i with
  | nop => exact .of_eq (succeeds_next.mp h ▸ rfl)
  | openStream =>
    rcases execOpenStream_cases h with h | ⟨hlc, ch, d, dim, -, rfl⟩
    · exact .of_eq h.control
    · exact .opens s.control ch d dim hlc
  | init => exact execInit_control h
  | start =>
    rcases execStart_cases h with h | ⟨hlc, rfl⟩
    · exact .of_eq h.control
    · exact .starts s.control hlc
  | stop =>
    rcases execStop_cases h with h | ⟨hlc, rfl⟩
    · exact .of_eq h.control
    · exact .stops s.control hlc
  | close =>
    rcases execClose_cases h with h | ⟨hlc, rfl⟩
    · exact .of_eq h.control
    · exact .closes s.control hlc
  | resume =>
    rcases execResume_cases h with h | ⟨-, ch, rfl⟩
    · exact .of_eq h.control
    · exact .resumes s.control ch
  | setConfig =>
    rcases execSetConfig_cases h with h | ⟨tier, opt, rfl⟩
    · exact .of_eq h.control
    · exact .configures s.control tier opt
  | addPort => exact .of_refused_or (execAddPort_cases h) fun ⟨_, _, _, _, _, ht⟩ => ht ▸ rfl
  | removePort => exact .of_refused_or (execRemovePort_cases h) fun ⟨_, _, ht⟩ => ht ▸ rfl
  | rbAdd => exact .of_eq (execRbAdd_control h)
  | rbGet => exact execRbGet_control h
  | rbFillPackets => exact .of_refused_or (execRbFillPackets_cases h) fun ⟨_, ht⟩ => ht ▸ rfl
  | rbFillPayload => exact .of_refused_or (execRbFillPayload_cases h) fun ⟨_, ht⟩ => ht ▸ rfl
  | spDemux => exact execSpDemux_control h
  | spMux => exact execSpMux_control h
  | portRead => exact .of_refused_or (execPortRead_cases h) fun ⟨_, _, _, _, _, _, ht⟩ => ht ▸ rfl
  | portWrite => exact .of_refused_or (execPortWrite_cases h) fun ⟨_, _, _, _, _, _, ht⟩ => ht ▸ rfl
  | midiDecode => exact .of_eq (execMidiDecode_control h)
  | midiRead => exact .of_refused_or (execMidiRead_cases h) fun ⟨_, _, _, _, _, _, ht⟩ => ht ▸ rfl
  | midiEncode => exact .of_refused_or (execMidiEncode_cases h) fun ⟨_, _, _, _, _, _, ht⟩ => ht ▸ rfl
  | ctTicksToCycles => exact .of_eq (execCtTicksToCycles_cases h).control
  | ctCyclesToTicks => exact .of_refused_or (execCtCyclesToTicks_cases h) sameButResults.control
  | ctReconstruct => exact .of_refused_or (execCtReconstruct_cases h) sameButResults.control
  | ctToTicks =>
    rcases execCtToTicks_cases h with h | ⟨c, h⟩
    · exact .of_eq h.control
    · have herr : t.err = .ok := by rw [h]
      rw [h.control, herr]
      exact .extendsTicks s.control _ _
  | ctFromTicks => exact .of_eq (execCtFromTicks_cases h).control
  | ctSytCheck =>
    refine .of_refused_or (execCtSytCheck_cases h) fun ⟨y, ts, ht⟩ => ?_
    rw [ht.control, State.sytCheck_frame]
    rfl
  | isoPut data channel tag sy cycle dropped ctr =>
    rcases execIsoPut_frame h with rfl | ⟨-, hf⟩
    · exact .keeps _ _ _
    · exact .of_eq hf.control
  | isoGet cycle dropped maxLength =>
    rcases execIsoGet_frame (cycle := cycle) h with rfl | ⟨-, hf⟩
    · exact .keeps _ _ _
    · exact .of_eq hf.control
  | isoBusReset =>
    rcases execIsoBusReset_cases h with rfl | ⟨-, rfl⟩
    · exact .keeps _ _ _
    · exact .keeps _ _ _

end Sys2Proof.Machine
end

section
/-! PROOFS. What a step does to the control registers, for O53, O54 and O57. -/

namespace Sys2Proof.Machine

/-! ### Host writes -/

/-- What a host write of `v` to register `r`, other than CMD, does to the control registers (R52, R55, R56, R57). -/
inductive RegisterWrite : Csr → Word → Control → Control → Prop
  | arg (c : Control) (i : Fin 8) (v : Word) : RegisterWrite (.arg i) v c { c with arg := c.arg.set i.val v i.isLt }
  | supported (c : Control) (v : Word) (hres : v &&& supportedReserved = 0) :
    RegisterWrite .supported v c { c with supported := v }
  | txCip (c : Control) (v : Word) (hres : v &&& txCipReserved = 0) (hlc : c.lc ≠ .running) :
    RegisterWrite .txCip v c { c with txCip := v }
  | txIso (c : Control) (v : Word) (hres : v &&& txIsoReserved = 0) (hlc : c.lc ≠ .running) :
    RegisterWrite .txIso v c { c with txIso := v }
  | txb (c : Control) (a : Nat) (v : Word) : RegisterWrite (.txb a) v c { c with txb := writeBytes c.txb a (putBe32 v) }

theorem State.writeCsr_control {s t : State} {r : Csr} {v : Word} (h : s.writeCsr r v = some t) :
    RegisterWrite r v s.control t.control := by
  unfold State.writeCsr at h
  split at h
  · cases h
    exact .arg s.control _ v
  · split at h
    · cases h
      exact .supported s.control v ‹_›
    · cases h
  · split at h
    · next hc =>
      cases h
      exact .txCip s.control v hc.1 hc.2
    · cases h
  · split at h
    · next hc =>
      cases h
      exact .txIso s.control v hc.1 hc.2
    · cases h
  · cases h
    exact .txb s.control _ v
  · cases h

/-- A host write ends with a bus error, or it writes CMD or one other register (R131, R457). -/
theorem State.hostWrite_register {s t : State} {bits off : Nat} {v : Word} (h : s.hostWrite bits off v = .next t) :
    t = s.answer .busError ∨ (bits = 32 ∧ off = cmdOffset ∧ s.writeCmd v = .next t) ∨
    (bits = 32 ∧ ∃ r u, csrAt s.params off = some r ∧ s.writeCsr r v = some u ∧ t = u.answer .written) := by
  unfold State.hostWrite at h
  split at h
  · cases h
    exact .inl rfl
  · next hbits =>
    have hbits : bits = 32 := not_not.mp hbits
    split at h
    · cases h
      exact .inl rfl
    · exact .inr (.inl ⟨hbits, csrAt_cmd.mp ‹_›, h⟩)
    · split at h
      · cases h
        exact .inr (.inr ⟨hbits, _, _, ‹_›, ‹_›, rfl⟩)
      · cases h
        exact .inl rfl

theorem State.writeCmd_cases {s t : State} {w : Word} (h : s.writeCmd w = .next t) :
    (∃ i, decodeCmd w = .ok i ∧ exec i ({ s with cmd := w }.answer .written) = .next t) ∨
    t = ({ s with cmd := w }.answer .written).raise .eOpcode := by
  unfold State.writeCmd at h
  simp only at h
  split at h
  · exact .inl ⟨_, ‹_›, h⟩
  · exact .inr (fails_next.mp h).symm

/-! ### The moves of a step -/

/-- What a step from `s` that ends with `STATUS.ERR = e` makes of the control registers: nothing, the hardware reset, a
command (which stores its word in CMD first), a word that names none, or a host write to one register. -/
inductive StepMove (s : State) (e : ErrCode) : Control → Prop
  | keeps : StepMove s e s.control
  | resets (hreset : s.resetsNext) : StepMove s e (State.resetOf s.params).control
  | commands {w : Word} {i : Instr} {d : Control} (hw : s.writesNext .cmd w) (hrun : s.runsCommand i)
    (hmove : ControlMove i e { s.control with cmd := w } d) : StepMove s e d
  | unknownCommand {w : Word} (hw : s.writesNext .cmd w) : StepMove s e { s.control with cmd := w }
  | writes {r : Csr} {v : Word} {d : Control} (hw : s.writesNext r v) (hmove : RegisterWrite r v s.control d) :
    StepMove s e d

theorem State.sync_control (s : State) (x : CdcReg) : (s.sync x).control = s.control := by
  cases x with
  | cntOverflow | cntUnderflow =>
    unfold State.sync
    dsimp only
    split <;> rfl
  | _ => rfl

/-- No ISO transaction changes a control register (R43). -/
theorem State.isoTransaction_control {s t : State} {r : IsoRecord} (h : s.isoTransaction r = .next t) :
    t.control = s.control := by
  obtain ⟨i, hi, h⟩ := State.isoTransaction_cases h
  obtain ⟨_, _, _, _, _, hf, -⟩ := isoWritesOnlyItsOwnDomain r i s t hi h
  rw [hf]
  rfl

theorem hostWrite_stepMove {s t : State} {rest : List Request} {bits off : Nat} {v : Word}
    (hin : s.input = .hostWrite bits off v :: rest) (h : (s.begin rest).hostWrite bits off v = .next t) :
    StepMove s t.err t.control := by
  rcases State.hostWrite_register h with rfl | ⟨rfl, rfl, h⟩ | ⟨rfl, r, u, hr, hu, rfl⟩
  · exact .keeps
  · have hw : s.writesNext .cmd v := ⟨cmdOffset, rest, hin, csrAt_cmd.mpr rfl⟩
    rcases State.writeCmd_cases h with ⟨i, hi, h⟩ | rfl
    · exact .commands hw ⟨v, rest, hin, hi⟩ (exec_controlMove h)
    · exact .unknownCommand hw
  · have hmove : RegisterWrite r v (s.begin rest).control u.control := State.writeCsr_control hu
    exact .writes ⟨off, rest, hin, hr⟩ hmove

/-- One step, said once for the control registers. -/
theorem step_stepMove {s t : State} (h : step s = .next t) : StepMove s t.err t.control := by
  rcases step_cases h with ⟨-, rfl⟩ | ⟨q, rest, hin, h⟩
  · exact .keeps
  · cases q with
    | hostRead bits off =>
      obtain ⟨r, hr⟩ := (s.begin rest).hostRead_cases bits off
      cases h
      rw [hr]
      exact .keeps
    | hostWrite bits off v => exact hostWrite_stepMove hin h
    | iso r =>
      rw [State.isoTransaction_control h]
      exact .keeps
    | sync x =>
      cases h
      rw [State.sync_control]
      exact .keeps
    | hwReset =>
      cases h
      exact .resets ⟨rest, hin⟩

/-! ### Which step changes which register -/

/-- `f` looks at no register that a host write stores into. -/
def HostFree {α : Type} (f : Control → α) : Prop :=
  ∀ c arg cmd supported txCip txIso txb, f { c with arg, cmd, supported, txCip, txIso, txb } = f c

theorem RegisterWrite.hostFree {α : Type} {f : Control → α} (hf : HostFree f) {r : Csr} {v : Word} {c d : Control}
    (h : RegisterWrite r v c d) : f d = f c := by
  cases h <;> exact hf c ..

/-- A register that no host write stores into changes by the hardware reset, or by the command that the step runs. -/
theorem StepMove.command_of_changed {α : Type} {f : Control → α} (hf : HostFree f) {s : State} {e : ErrCode}
    {d : Control} (h : StepMove s e d) (hne : f d ≠ f s.control) :
    (s.resetsNext ∧ d = (State.resetOf s.params).control) ∨
    ∃ i c, s.runsCommand i ∧ ControlMove i e c d ∧ f c = f s.control := by
  cases h with
  | keeps => exact absurd rfl hne
  | resets hreset => exact .inl ⟨hreset, rfl⟩
  | commands hw hrun hmove => exact .inr ⟨_, _, hrun, hmove, hf s.control ..⟩
  | unknownCommand hw => exact absurd (hf s.control ..) hne
  | writes hw hmove => exact absurd (hmove.hostFree hf) hne

/-- Beside the hardware reset, such a register changes only by the commands `P` that may change it. -/
theorem StepMove.runs_of_changed {α : Type} {f : Control → α} (hf : HostFree f) {P : Instr → Prop}
    (hP : ∀ {i e c d}, ControlMove i e c d → f d ≠ f c → P i) {s : State} {e : ErrCode} {d : Control}
    (h : StepMove s e d) (hr : ¬s.resetsNext) (hne : f d ≠ f s.control) : ∃ i, s.runsCommand i ∧ P i := by
  rcases h.command_of_changed hf hne with ⟨hreset, -⟩ | ⟨i, c, hrun, hmove, hc⟩
  · exact absurd hreset hr
  · exact ⟨i, hrun, hP hmove (hc ▸ hne)⟩

section
variable {i : Instr} {e : ErrCode} {c d : Control} (h : ControlMove i e c d)
include h

theorem ControlMove.stream_owner (hne : (d.dir, d.dim) ≠ (c.dir, c.dim)) : i = .openStream := by
  cases h with
  | opens => rfl
  | _ => exact absurd rfl hne

theorem ControlMove.chan_owner (hne : d.chan ≠ c.chan) : i = .openStream ∨ i = .resume := by
  cases h with
  | opens => exact .inl rfl
  | resumes => exact .inr rfl
  | _ => exact absurd rfl hne

theorem ControlMove.ring_owner (hne : (d.hdrSize, d.cap, d.maxPkt) ≠ (c.hdrSize, c.cap, c.maxPkt)) :
    i = .init ∨ i = .close := by
  cases h with
  | inits | failsInit => exact .inl rfl
  | closes => exact .inr rfl
  | _ => exact absurd rfl hne

theorem ControlMove.config_owner (hne : (d.tier, d.opt) ≠ (c.tier, c.opt)) : i = .setConfig := by
  cases h with
  | configures => rfl
  | _ => exact absurd rfl hne

theorem ControlMove.ticks_owner (hne : (d.ctEpoch, d.ctLastSec, d.ctHave) ≠ (c.ctEpoch, c.ctLastSec, c.ctHave)) :
    i = .ctToTicks := by
  cases h with
  | extendsTicks => rfl
  | _ => exact absurd rfl hne

/-- The arrows of R44 that a command takes. -/
theorem ControlMove.lc_arrow (hne : d.lc ≠ c.lc) :
    (i = .openStream ∧ c.lc = .closed ∧ d.lc = .opened) ∨
    (i = .init ∧ c.lc = .opened ∧ (d.lc = .ready ∨ (d.lc = .closed ∧ e = .eResource))) ∨
    (i = .start ∧ (c.lc = .ready ∨ c.lc = .stopped) ∧ d.lc = .running) ∨
    (i = .stop ∧ c.lc = .running ∧ d.lc = .stopped) ∨
    (i = .close ∧ (c.lc = .opened ∨ c.lc = .ready ∨ c.lc = .stopped) ∧ d.lc = .closed) := by
  cases h with
  | opens _ _ _ _ hlc => exact .inl ⟨rfl, hlc, rfl⟩
  | inits _ _ _ _ hlc => exact .inr (.inl ⟨rfl, hlc, .inl rfl⟩)
  | failsInit _ hlc => exact .inr (.inl ⟨rfl, hlc, .inr ⟨rfl, rfl⟩⟩)
  | starts _ hlc => exact .inr (.inr (.inl ⟨rfl, hlc, rfl⟩))
  | stops _ hlc => exact .inr (.inr (.inr (.inl ⟨rfl, hlc, rfl⟩)))
  | closes _ hlc => exact .inr (.inr (.inr (.inr ⟨rfl, hlc, rfl⟩)))
  | _ => exact absurd rfl hne

/-- No command writes an operand, CMD, SUPPORTED, TX_CIP, TX_ISO or a parameter. -/
theorem ControlMove.keeps_host :
    d.params = c.params ∧ d.arg = c.arg ∧ d.cmd = c.cmd ∧ d.supported = c.supported ∧ d.txCip = c.txCip ∧
      d.txIso = c.txIso := by
  cases h <;> exact ⟨rfl, rfl, rfl, rfl, rfl, rfl⟩

end

theorem RegisterWrite.keeps_params_cmd {r : Csr} {v : Word} {c d : Control} (h : RegisterWrite r v c d) :
    d.params = c.params ∧ d.cmd = c.cmd := by
  cases h <;> exact ⟨rfl, rfl⟩

section
variable {s : State} {e : ErrCode} {d : Control} (h : StepMove s e d)
include h

theorem StepMove.params : d.params = s.params := by
  cases h with
  | commands hw hrun hmove => exact hmove.keeps_host.1
  | writes hw hmove => exact hmove.keeps_params_cmd.1
  | _ => rfl

theorem StepMove.cmd_writer (hr : ¬s.resetsNext) (hne : d.cmd ≠ s.cmd) : s.writesNext .cmd d.cmd := by
  cases h with
  | keeps => exact absurd rfl hne
  | resets hreset => exact absurd hreset hr
  | commands hw hrun hmove =>
    obtain ⟨-, -, hcmd, -⟩ := hmove.keeps_host
    rw [hcmd]
    exact hw
  | unknownCommand hw => exact hw
  | writes hw hmove => exact absurd hmove.keeps_params_cmd.2 hne

/-- The operands and the host's settings change only by the hardware reset or by a host write to one register. -/
theorem StepMove.write_or_same :
    (s.resetsNext ∧ d = (State.resetOf s.params).control) ∨
    (d.arg = s.arg ∧ d.supported = s.supported ∧ d.txCip = s.txCip ∧ d.txIso = s.txIso) ∨
    ∃ r v, s.writesNext r v ∧ RegisterWrite r v s.control d := by
  cases h with
  | keeps => exact .inr (.inl ⟨rfl, rfl, rfl, rfl⟩)
  | resets hreset => exact .inl ⟨hreset, rfl⟩
  | commands hw hrun hmove =>
    obtain ⟨-, harg, -, hsupported, hcip, hiso⟩ := hmove.keeps_host
    exact .inr (.inl ⟨harg, hsupported, hcip, hiso⟩)
  | unknownCommand hw => exact .inr (.inl ⟨rfl, rfl, rfl, rfl⟩)
  | writes hw hmove => exact .inr (.inr ⟨_, _, hw, hmove⟩)

end

section
variable {r : Csr} {v : Word} {c d : Control} (h : RegisterWrite r v c d)
include h

theorem RegisterWrite.supported_owner (hne : d.supported ≠ c.supported) : r = .supported ∧ d.supported = v := by
  cases h with
  | supported => exact ⟨rfl, rfl⟩
  | _ => exact absurd rfl hne

theorem RegisterWrite.txCip_owner (hne : d.txCip ≠ c.txCip) : r = .txCip ∧ d.txCip = v ∧ c.lc ≠ .running := by
  cases h with
  | txCip _ _ _ hlc => exact ⟨rfl, rfl, hlc⟩
  | _ => exact absurd rfl hne

theorem RegisterWrite.txIso_owner (hne : d.txIso ≠ c.txIso) : r = .txIso ∧ d.txIso = v ∧ c.lc ≠ .running := by
  cases h with
  | txIso _ _ _ hlc => exact ⟨rfl, rfl, hlc⟩
  | _ => exact absurd rfl hne

theorem RegisterWrite.arg_owner {i : Fin 8} (hne : d.arg[i] ≠ c.arg[i]) : r = .arg i ∧ d.arg[i] = v := by
  cases h with
  | arg _ j _ =>
    by_cases hj : j = i
    · subst hj
      exact ⟨rfl, by simp⟩
    · have hj : j.val ≠ i.val := fun hval => hj (Fin.ext hval)
      exact absurd (by simp [hj]) hne
  | _ => exact absurd rfl hne

end

/-- Beside the hardware reset, a setting or an operand that changes is written by the host, TX_CIP and TX_ISO only while
not RUNNING. -/
theorem StepMove.host_writer {s : State} {e : ErrCode} {d : Control} (h : StepMove s e d) (hr : ¬s.resetsNext) :
    (d.supported ≠ s.supported → s.writesNext .supported d.supported) ∧
    (d.txCip ≠ s.txCip → s.writesNext .txCip d.txCip ∧ s.lc ≠ .running) ∧
    (d.txIso ≠ s.txIso → s.writesNext .txIso d.txIso ∧ s.lc ≠ .running) ∧
    ∀ i : Fin 8, d.arg[i] ≠ s.arg[i] → s.writesNext (.arg i) d.arg[i] := by
  rcases h.write_or_same.resolve_left fun hreset => hr hreset.1 with
    ⟨harg, hsupported, hcip, hiso⟩ | ⟨r, v, hw, hmove⟩
  · exact ⟨absurd hsupported, absurd hcip, absurd hiso, fun i => absurd (by rw [harg])⟩
  · refine ⟨fun hne => ?_, fun hne => ?_, fun hne => ?_, fun i hne => ?_⟩
    · obtain ⟨rfl, rfl⟩ := hmove.supported_owner hne
      exact hw
    · obtain ⟨rfl, rfl, hlc⟩ := hmove.txCip_owner hne
      exact ⟨hw, hlc⟩
    · obtain ⟨rfl, rfl, hlc⟩ := hmove.txIso_owner hne
      exact ⟨hw, hlc⟩
    · obtain ⟨rfl, rfl⟩ := hmove.arg_owner hne
      exact hw

/-! ### The packet fetched into TXB -/

/-- `State.fetchedHeld`, said of the control registers. -/
def Control.fetched (c : Control) : Prop :=
  c.cpktValid = true → c.lc.ringReady = true ∧ c.dir = .rx ∧
    ∀ a, a < c.cpktLen.toNat → (lookupAt c.txb a).isSome = true

theorem State.fetchedHeld_iff (s : State) : s.fetchedHeld ↔ s.control.fetched := Iff.rfl

/-- A command keeps the packet that CPKT_VALID announces in TXB, or clears CPKT_VALID. -/
theorem ControlMove.keeps_fetched {i : Instr} {e : ErrCode} {c d : Control} (h : ControlMove i e c d)
    (hc : c.fetched) : d.fetched := by
  cases h with
  | keeps | resumes | configures | extendsTicks => exact hc
  | opens | failsInit | closes | demuxes => exact fun hvalid => absurd hvalid Bool.false_ne_true
  | inits _ _ _ _ hlc =>
    intro hvalid
    obtain ⟨hready, -⟩ := hc hvalid
    rw [hlc] at hready
    cases hready
  | starts | stops => exact fun hvalid => ⟨rfl, (hc hvalid).2⟩
  | fetches _ len bs hready hdir hlen =>
    refine fun _ => ⟨hready, hdir, fun a ha => ?_⟩
    have ha : a < bs.length := hlen ▸ ha
    have hbyte := lookupAt_writeBytes_inside c.txb 0 bs a ha
    rw [Nat.zero_add] at hbyte
    exact Option.isSome_of_eq_some hbyte
  | muxes _ _ hdir =>
    intro hvalid
    obtain ⟨-, hrx, -⟩ := hc hvalid
    exact absurd (hrx.symm.trans hdir) (by decide)

theorem RegisterWrite.keeps_fetched {r : Csr} {v : Word} {c d : Control} (h : RegisterWrite r v c d)
    (hc : c.fetched) : d.fetched := by
  cases h with
  | txb _ a _ =>
    intro hvalid
    obtain ⟨hready, hdir, hbytes⟩ := hc hvalid
    exact ⟨hready, hdir, fun b hb => isSome_writeBytes (hbytes b hb) a _⟩
  | _ => exact hc

theorem StepMove.keeps_fetched {s : State} {e : ErrCode} {d : Control} (h : StepMove s e d)
    (hs : s.control.fetched) : d.fetched := by
  cases h with
  | keeps | unknownCommand => exact hs
  | resets => exact fun hvalid => absurd hvalid Bool.false_ne_true
  | commands hw hrun hmove => exact hmove.keeps_fetched hs
  | writes hw hmove => exact hmove.keeps_fetched hs

/-! ### Reserved bits -/

/-- `State.reservedBitsClear`, said of the control registers. -/
def Control.reservedClear (c : Control) : Prop :=
  c.supported &&& supportedReserved = 0 ∧ c.txCip &&& txCipReserved = 0 ∧ c.txIso &&& txIsoReserved = 0

theorem State.reservedBitsClear_iff (s : State) : s.reservedBitsClear ↔ s.control.reservedClear := Iff.rfl

theorem RegisterWrite.keeps_reservedClear {r : Csr} {v : Word} {c d : Control} (h : RegisterWrite r v c d)
    (hc : c.reservedClear) : d.reservedClear := by
  obtain ⟨hsupported, hcip, hiso⟩ := hc
  cases h with
  | supported _ _ hres => exact ⟨hres, hcip, hiso⟩
  | txCip _ _ hres _ => exact ⟨hsupported, hres, hiso⟩
  | txIso _ _ hres _ => exact ⟨hsupported, hcip, hres⟩
  | arg | txb => exact ⟨hsupported, hcip, hiso⟩

theorem StepMove.keeps_reservedClear {s : State} {e : ErrCode} {d : Control} (h : StepMove s e d)
    (hs : s.control.reservedClear) : d.reservedClear := by
  rcases h.write_or_same with ⟨-, rfl⟩ | ⟨-, hsupported, hcip, hiso⟩ | ⟨r, v, -, hmove⟩
  · have hclear : (1 : Word) &&& supportedReserved = 0 ∧ (0 : Word) &&& txCipReserved = 0 ∧
        (1 : Word) &&& txIsoReserved = 0 := by decide
    exact hclear
  · rw [Control.reservedClear, hsupported, hcip, hiso]
    exact hs
  · exact hmove.keeps_reservedClear hs

end Sys2Proof.Machine
end

section
open Sys2Proof Sys2Proof.Machine

/-- Settles O53: the lifecycle is no host register, so a change is the reset's or a command's, and each command's move
takes an arrow of R44. -/
theorem lifecycleFollowsItsDiagram : Obligations.LifecycleFollowsItsDiagram := by
  intro s t h hne
  rcases (step_stepMove h).command_of_changed (f := Control.lc) (fun _ _ _ _ _ _ _ => rfl) hne with
    ⟨hreset, hd⟩ | ⟨i, c, hrun, hmove, hc⟩
  · exact .inl ⟨hreset, congrArg Control.lc hd⟩
  · have hc : c.lc = s.lc := hc
    rcases hc ▸ hmove.lc_arrow (hc ▸ hne) with ⟨rfl, ha⟩ | ⟨rfl, ha⟩ | ⟨rfl, ha⟩ | ⟨rfl, ha⟩ | ⟨rfl, ha⟩
    · exact .inr (.inl ⟨hrun, ha⟩)
    · exact .inr (.inr (.inl ⟨hrun, ha⟩))
    · exact .inr (.inr (.inr (.inl ⟨hrun, ha⟩)))
    · exact .inr (.inr (.inr (.inr (.inl ⟨hrun, ha⟩))))
    · exact .inr (.inr (.inr (.inr (.inr ⟨hrun, ha⟩))))

/-- Settles O54: the registers the commands own by the owner of each move, those the host writes by the register write
that the step performs. -/
theorem onlyItsCommandWritesARegister : Obligations.OnlyItsCommandWritesARegister := by
  intro s t h hr
  have hs := step_stepMove h
  obtain ⟨hsupported, hcip, hiso, harg⟩ := hs.host_writer hr
  refine ⟨?stream, ?chan, ?ring, ?config, ?ticks, hsupported, hcip, hiso, harg, hs.cmd_writer hr, hs.params⟩
  case stream =>
    intro hne
    obtain ⟨_, hrun, rfl⟩ := hs.runs_of_changed (f := fun c => (c.dir, c.dim)) (fun _ _ _ _ _ _ _ => rfl)
      ControlMove.stream_owner hr (by simp only [ne_eq, Prod.mk.injEq, not_and_or]; exact hne)
    exact hrun
  case chan =>
    intro hne
    obtain ⟨_, hrun, rfl | rfl⟩ := hs.runs_of_changed (f := Control.chan) (fun _ _ _ _ _ _ _ => rfl)
      ControlMove.chan_owner hr hne
    · exact .inl hrun
    · exact .inr hrun
  case ring =>
    intro hne
    obtain ⟨_, hrun, rfl | rfl⟩ := hs.runs_of_changed (f := fun c => (c.hdrSize, c.cap, c.maxPkt))
      (fun _ _ _ _ _ _ _ => rfl) ControlMove.ring_owner hr (by simp only [ne_eq, Prod.mk.injEq, not_and_or]; exact hne)
    · exact .inl hrun
    · exact .inr hrun
  case config =>
    intro hne
    obtain ⟨_, hrun, rfl⟩ := hs.runs_of_changed (f := fun c => (c.tier, c.opt)) (fun _ _ _ _ _ _ _ => rfl)
      ControlMove.config_owner hr (by simp only [ne_eq, Prod.mk.injEq, not_and_or]; exact hne)
    exact hrun
  case ticks =>
    intro hne
    obtain ⟨_, hrun, rfl⟩ := hs.runs_of_changed (f := fun c => (c.ctEpoch, c.ctLastSec, c.ctHave))
      (fun _ _ _ _ _ _ _ => rfl) ControlMove.ticks_owner hr (by simp only [ne_eq, Prod.mk.injEq, not_and_or]; exact hne)
    exact hrun

/-- Settles O57: each move keeps the reserved bits clear and the announced packet in TXB. -/
theorem stepKeepsTheRegistersInForm : Obligations.StepKeepsTheRegistersInForm := by
  intro s t h
  rw [State.reservedBitsClear_iff, State.reservedBitsClear_iff, State.fetchedHeld_iff, State.fetchedHeld_iff]
  exact ⟨(step_stepMove h).keeps_reservedClear, (step_stepMove h).keeps_fetched⟩

end

section
/-! PROOFS. Distances between the ring's indices (R50, R270), the ring's moves, and that each keeps the ring's invariant.
For O58. -/

namespace Sys2Proof.Machine

/-! ### Distances between indices (R50, R270) -/

theorem nextIndex_lt {cap i : BitVec 14} (hi : i.toNat < 2 * cap.toNat) (hc : cap.toNat ≤ 8192) :
    (nextIndex cap i).toNat < 2 * cap.toNat := by
  rw [nextIndex_toNat hc hi]
  split <;> omega

section
variable {cap w r : BitVec 14} (hw : w.toNat < 2 * cap.toNat) (hr : r.toNat < 2 * cap.toNat)
include hw hr

/-- Distances add up along the ring, while they stay below one turn. -/
theorem fill_trans {i : BitVec 14} (hi : i.toNat < 2 * cap.toNat) (hlt : fill cap i r + fill cap w i < 2 * cap.toNat) :
    fill cap w r = fill cap i r + fill cap w i := by
  rw [fill_eq hi hr, fill_eq hw hi] at *
  rw [fill_eq hw hr]
  split_ifs at * <;> omega

/-- Moving the front index up by one adds one to the distance (R123). -/
theorem fill_nextIndex_left (hc : cap.toNat ≤ 8192) (hlt : fill cap w r + 1 < 2 * cap.toNat) :
    fill cap (nextIndex cap w) r = fill cap w r + 1 := by
  have hn := nextIndex_toNat hc hw
  rw [fill_eq hw hr] at *
  rw [fill_eq (nextIndex_lt hw hc) hr, hn]
  split_ifs at * <;> omega

/-- Moving the back index up by one takes one from the distance (R124). -/
theorem fill_nextIndex_right (hc : cap.toNat ≤ 8192) (hne : fill cap w r ≠ 0) :
    fill cap w (nextIndex cap r) + 1 = fill cap w r := by
  have hn := nextIndex_toNat hc hr
  rw [fill_eq hw hr] at *
  rw [fill_eq hw (nextIndex_lt hr hc), hn]
  split_ifs at * <;> omega

/-- Going up from `r` by the distance to `w` ends in `w`'s slot, and goes on as from `w`. -/
theorem slot_fill_add (j : Nat) : slot cap (r.toNat + (fill cap w r + j)) = slot cap (w.toNat + j) := by
  have hsum : r.toNat + (fill cap w r + j) = w.toNat + j ∨
      r.toNat + (fill cap w r + j) = w.toNat + j + cap.toNat * 2 := by
    rw [fill_eq hw hr]
    split <;> omega
  rcases hsum with h | h
  · rw [h]
  · rw [h, slot, slot, Nat.add_mul_mod_self_left]

/-- While the ring is not full, no slot from `r` up to `w` is `w`'s. -/
theorem slot_ne_of_lt_fill {j : Nat} (hj : j < fill cap w r) (hlt : fill cap w r < cap.toNat) :
    slot cap (r.toNat + j) ≠ slot cap w.toNat := by
  have hwslot : slot cap w.toNat = slot cap (r.toNat + j + (fill cap w r - j)) := by
    rw [← Nat.add_zero w.toNat, ← slot_fill_add hw hr 0]
    congr 1
    omega
  intro heq
  have hzero : (fill cap w r - j) % cap.toNat = 0 := by
    have hmod := Nat.sub_mod_eq_zero_of_mod_eq (hwslot.symm.trans heq.symm)
    rwa [Nat.add_sub_cancel_left] at hmod
  rw [Nat.mod_eq_of_lt (by omega)] at hzero
  omega

end

/-! ### The ring's registers and memories -/

/-- What the ring's invariant looks at: the parameters, whether the ring is ready, its configuration, the indices, and the
packets stored. -/
structure RingView where
  params : Params
  ready : Bool
  hdrSize : BitVec 13
  cap : BitVec 14
  maxPkt : BitVec 13
  wIdx : BitVec 14
  rIdx : BitVec 14
  wAtC : BitVec 14
  rAtP : BitVec 14
  ring : Memory
  slotMeta : MetaTable

def State.ringView (s : State) : RingView :=
  { params := s.params, ready := s.lc.ringReady, hdrSize := s.hdrSize, cap := s.cap, maxPkt := s.maxPkt, wIdx := s.wIdx,
    rIdx := s.rIdx, wAtC := s.wAtC, rAtP := s.rAtP, ring := s.ring, slotMeta := s.slotMeta }

/-- The rings of `s` and `t` are the same. -/
def sameRing (s t : State) : Prop := t.ringView = s.ringView

/-- The ring's invariant speaks of the ring alone. -/
theorem sameRing.ringSafe {s t : State} (h : sameRing s t) (hs : s.ringSafe) : t.ringSafe := by
  simp only [sameRing, State.ringView, RingView.mk.injEq] at h
  obtain ⟨hparams, hready, hhdr, hcap, hmax, hw, hr, hwc, hrp, hring, hmeta⟩ := h
  simp only [State.ringSafe, State.ringConfigured, State.indicesOrdered, State.slotsHeld, State.slotHeld, hparams, hready,
    hhdr, hcap, hmax, hw, hr, hwc, hrp, hring, hmeta]
  exact hs

theorem refusedAs.sameRing {s t : State} (h : refusedAs s t) : sameRing s t := by
  obtain ⟨e, -, rfl⟩ := h
  rfl

theorem sameButResults.sameRing {s t : State} (h : sameButResults s t) : sameRing s t := by
  rw [h]
  rfl

theorem sameButPorts.sameRing {s t : State} (h : sameButPorts s t) : sameRing s t := by
  rw [h]
  rfl

theorem State.demuxPacket_sameRing (s : State) (N : Nat) : sameRing s (s.demuxPacket N) := by
  rw [State.demuxPacket_frame]
  rfl

theorem State.muxPacket_sameRing (s : State) (N : Nat) (y : BitVec 16) : sameRing s (s.muxPacket N y) := by
  rw [State.muxPacket_frame]
  rfl

/-- Of the ring, RB_GET changes the read index alone (R272). -/
theorem State.gotPacket_sameRing (s : State) : sameRing s.ringDrop s.gotPacket := by
  simp [sameRing, State.ringView, State.gotPacket, State.fetchPacket]

/-! ### The ring's moves -/

/-- What a request makes of the ring: nothing, a producer's add, a consumer's get, a copy of an index into its shadow, or
one of the changes of the lifecycle and the hardware reset. -/
inductive RingMove (s t : State) : Prop
  | keeps (h : sameRing s t)
  /-- RB_ADD and ISO_PUT (R123, R271, R310). -/
  | adds (b : List Byte) (tag : BitVec 2) (sy : BitVec 4) (cycle : BitVec 13) (ctr : Word)
    (hready : s.lc.ringReady = true) (hroom : s.producerFill ≠ s.cap.toNat) (hmin : s.hdrSize.toNat ≤ b.length)
    (hmax : b.length ≤ s.maxPkt.toNat) (h : sameRing (s.ringAdd b tag sy cycle ctr) t)
  /-- RB_GET and ISO_GET (R124, R272, R311). -/
  | drops (hready : s.lc.ringReady = true) (hpacket : s.consumerFill ≠ 0) (h : sameRing s.ringDrop t)
  /-- SYNC(W) and SYNC(R) (R127). -/
  | syncs (x : CdcReg) (hx : x = .w ∨ x = .r) (h : sameRing (s.sync x) t)
  /-- OPEN (R331). -/
  | opens (hready : s.lc.ringReady = false) (h : sameRing s.clearIndices t)
  /-- INIT (R332). -/
  | inits (hdr : BitVec 13) (cap : BitVec 14) (maxpkt : BitVec 13) (hlc : s.lc = .opened)
    (hlegal : s.initArgsLegal hdr cap maxpkt = true) (hram : cap.toNat * maxpkt.toNat ≤ s.params.ramBytes)
    (h : sameRing (s.initRing hdr cap maxpkt) t)
  /-- CLOSE, and INIT without the RAM it asks for (R337). -/
  | tearsDown (h : sameRing s.teardown t)
  /-- The hardware reset (R500). -/
  | resets (h : sameRing s.hardwareReset t)

/-! ### Each move keeps the invariant -/

/-- A state without a ring configuration, with its indices at 0, meets the invariant. -/
theorem ringSafe_of_cleared {s : State} (hlegal : s.params.legal) (hready : s.lc.ringReady = false)
    (hcap : s.cap = 0) (hmax : s.maxPkt = 0) (hhdr : s.hdrSize = 0) (hw : s.wIdx = 0) (hr : s.rIdx = 0)
    (hwc : s.wAtC = 0) (hrp : s.rAtP = 0) : s.ringSafe := by
  refine ⟨⟨hlegal, ?_⟩, ?_, fun j hj => ?_⟩
  · rw [if_neg (by simp [hready])]
    exact ⟨hcap, hmax, hhdr⟩
  · rw [State.indicesOrdered, if_neg (by simp [hready])]
    exact ⟨hw, hr, hwc, hrp⟩
  · rw [hw, hrp, fill_self] at hj
    exact absurd hj (Nat.not_lt_zero j)

/-- A ring that is not ready and meets the invariant has neither configuration nor indices (R49, R337). -/
theorem State.ringSafe.cleared {s : State} (hs : s.ringSafe) (hready : s.lc.ringReady = false) :
    (s.cap = 0 ∧ s.maxPkt = 0 ∧ s.hdrSize = 0) ∧ s.wIdx = 0 ∧ s.rIdx = 0 ∧ s.wAtC = 0 ∧ s.rAtP = 0 := by
  obtain ⟨⟨-, hconf⟩, hidx, -⟩ := hs
  rw [if_neg (by simp [hready])] at hconf
  rw [State.indicesOrdered, if_neg (by simp [hready])] at hidx
  exact ⟨hconf, hidx⟩

/-- What a ready ring that meets the invariant gives (R49, R125, R270). -/
structure ReadyRing (s : State) : Prop where
  capBound : s.cap.toNat ≤ 8192
  wIdx : s.wIdx.toNat < 2 * s.cap.toNat
  rIdx : s.rIdx.toNat < 2 * s.cap.toNat
  wAtC : s.wAtC.toNat < 2 * s.cap.toNat
  rAtP : s.rAtP.toNat < 2 * s.cap.toNat
  ordered : fill s.cap s.rIdx s.rAtP + fill s.cap s.wAtC s.rIdx + fill s.cap s.wIdx s.wAtC ≤ s.cap.toNat

theorem State.ringSafe.readyRing {s : State} (hs : s.ringSafe) (hready : s.lc.ringReady = true) : ReadyRing s := by
  obtain ⟨⟨hlegal, hconf⟩, hidx, -⟩ := hs
  rw [State.indicesOrdered, if_pos hready] at hidx
  rw [if_pos hready] at hconf
  obtain ⟨-, ⟨-, hcapMax⟩, -⟩ := hlegal
  obtain ⟨-, hcap, -⟩ := hconf
  obtain ⟨hw, hr, hwc, hrp, hord⟩ := hidx
  exact ⟨hcap.trans hcapMax, hw, hr, hwc, hrp, hord⟩

section
variable {s : State} (h : ReadyRing s)
include h

theorem ReadyRing.indicesOrdered (hready : s.lc.ringReady = true) : s.indicesOrdered := by
  rw [State.indicesOrdered, if_pos hready]
  exact ⟨h.wIdx, h.rIdx, h.wAtC, h.rAtP, h.ordered⟩

/-- What the consumer may not yet see is part of what it will see: `fill(W, R)` over `W@C`. -/
theorem ReadyRing.fill_w_r : fill s.cap s.wIdx s.rIdx = fill s.cap s.wAtC s.rIdx + fill s.cap s.wIdx s.wAtC := by
  have := h.ordered
  have := h.wIdx
  exact fill_trans h.wIdx h.rIdx h.wAtC (by omega)

/-- The producer's view of the fill, over `R`. -/
theorem ReadyRing.producerFill_eq :
    s.producerFill = fill s.cap s.rIdx s.rAtP + fill s.cap s.wIdx s.rIdx := by
  have := h.ordered
  have := h.wIdx
  have := h.fill_w_r
  exact fill_trans h.wIdx h.rAtP h.rIdx (by omega)

theorem ReadyRing.producerFill_le : s.producerFill ≤ s.cap.toNat := by
  rw [h.producerFill_eq, h.fill_w_r, ← Nat.add_assoc]
  exact h.ordered

end

/-- The add fills the slot of `W`, which no packet before it holds, and moves `W` up by one (R123). -/
theorem ringAdd_ringSafe {s : State} (hs : s.ringSafe) {b : List Byte} (tag : BitVec 2) (sy : BitVec 4)
    (cycle : BitVec 13) (ctr : Word) (hready : s.lc.ringReady = true) (hroom : s.producerFill ≠ s.cap.toNat)
    (hmin : s.hdrSize.toNat ≤ b.length) (hmax : b.length ≤ s.maxPkt.toNat) :
    (s.ringAdd b tag sy cycle ctr).ringSafe := by
  have hring := hs.readyRing hready
  obtain ⟨hconf, -, hheld⟩ := hs
  have hfull := hring.producerFill_le
  have hlt : s.producerFill < s.cap.toNat := Nat.lt_of_le_of_ne hfull hroom
  have hsum := hring.producerFill_eq
  have hwr := hring.fill_w_r
  have hwc : fill s.cap (nextIndex s.cap s.wIdx) s.wAtC = fill s.cap s.wIdx s.wAtC + 1 :=
    fill_nextIndex_left hring.wIdx hring.wAtC hring.capBound (by omega)
  have hwp : fill s.cap (nextIndex s.cap s.wIdx) s.rAtP = s.producerFill + 1 :=
    fill_nextIndex_left hring.wIdx hring.rAtP hring.capBound (by rw [← State.producerFill]; omega)
  refine ⟨hconf, ReadyRing.indicesOrdered ?_ hready, fun j hj => ?_⟩
  · refine ⟨hring.capBound, nextIndex_lt hring.wIdx hring.capBound, hring.rIdx, hring.wAtC, hring.rAtP, ?_⟩
    simp only [State.ringAdd_cap, State.ringAdd_rIdx, State.ringAdd_rAtP, State.ringAdd_wAtC, State.ringAdd_wIdx]
    omega
  · have hj : j < s.producerFill + 1 := hwp ▸ hj
    rcases Nat.lt_succ_iff_lt_or_eq.mp hj with hj | rfl
    · obtain ⟨e, he, hlo, hhi, hbytes⟩ := hheld j hj
      refine ⟨e, ?_, hlo, hhi, fun i hi => isSome_writeBytes (hbytes i hi) _ _⟩
      have hne := slot_ne_of_lt_fill hring.wIdx hring.rAtP hj hlt
      exact (lookupAt_insertAt ..).trans ((if_neg hne).trans he)
    · have hslot : slot s.cap (s.rAtP.toNat + s.producerFill) = slot s.cap s.wIdx.toNat :=
        slot_fill_add hring.wIdx hring.rAtP 0
      have hlen : (BitVec.ofNat 13 b.length).toNat = b.length :=
        Nat.mod_eq_of_lt (hmax.trans_lt s.maxPkt.isLt)
      refine ⟨_, (lookupAt_insertAt ..).trans (if_pos hslot), hmin.trans_eq hlen.symm, hlen.trans_le hmax,
        fun i hi => ?_⟩
      have hi : i < b.length := hlen ▸ hi
      simp only [State.ringAdd_ring, State.ringAdd_cap, State.ringAdd_rAtP, State.ringAdd_maxPkt]
      rw [hslot]
      exact Option.isSome_of_eq_some (lookupAt_writeBytes_inside _ _ b i hi)

/-- The get moves `R` one place towards `W@C`; the slots from `R@P` up to `W` stay as they are (R124). -/
theorem ringDrop_ringSafe {s : State} (hs : s.ringSafe) (hready : s.lc.ringReady = true) (hpacket : s.consumerFill ≠ 0) :
    s.ringDrop.ringSafe := by
  have hring := hs.readyRing hready
  obtain ⟨hconf, -, hheld⟩ := hs
  have hord := hring.ordered
  have hconsumer : fill s.cap s.wAtC (nextIndex s.cap s.rIdx) + 1 = fill s.cap s.wAtC s.rIdx :=
    fill_nextIndex_right hring.wAtC hring.rIdx hring.capBound hpacket
  have hfreed : fill s.cap (nextIndex s.cap s.rIdx) s.rAtP = fill s.cap s.rIdx s.rAtP + 1 :=
    fill_nextIndex_left hring.rIdx hring.rAtP hring.capBound (by omega)
  refine ⟨hconf, ReadyRing.indicesOrdered ?_ hready, hheld⟩
  refine ⟨hring.capBound, hring.wIdx, nextIndex_lt hring.rIdx hring.capBound, hring.wAtC, hring.rAtP, ?_⟩
  simp only [State.ringDrop_cap, State.ringDrop_rIdx, State.ringDrop_rAtP, State.ringDrop_wAtC, State.ringDrop_wIdx]
  omega

/-- SYNC(W) and SYNC(R) close a distance of R125's chain and lengthen the one before it by as much (R127). -/
theorem sync_ringSafe {s : State} (hs : s.ringSafe) {x : CdcReg} (hx : x = .w ∨ x = .r) : (s.sync x).ringSafe := by
  cases hready : s.lc.ringReady with
  | false =>
    have hlegal : s.params.legal := hs.1.1
    obtain ⟨⟨hcap, hmax, hhdr⟩, hw, hr, hwc, hrp⟩ := hs.cleared hready
    rcases hx with rfl | rfl
    · exact ringSafe_of_cleared hlegal hready hcap hmax hhdr hw hr hw hrp
    · exact ringSafe_of_cleared hlegal hready hcap hmax hhdr hw hr hwc hr
  | true =>
    have hring := hs.readyRing hready
    obtain ⟨hconf, -, hheld⟩ := hs
    have hord := hring.ordered
    have hwr := hring.fill_w_r
    rcases hx with rfl | rfl
    · refine ⟨hconf, ReadyRing.indicesOrdered ?_ hready, hheld⟩
      refine ⟨hring.capBound, hring.wIdx, hring.rIdx, hring.wIdx, hring.rAtP, ?_⟩
      simp only [State.sync, fill_self]
      omega
    · refine ⟨hconf, ReadyRing.indicesOrdered ?_ hready, fun j hj => ?_⟩
      · refine ⟨hring.capBound, hring.wIdx, hring.rIdx, hring.wAtC, hring.rIdx, ?_⟩
        simp only [State.sync, fill_self]
        omega
      · have hj : j < fill s.cap s.wIdx s.rIdx := hj
        have hold := hheld (fill s.cap s.rIdx s.rAtP + j) (by
          rw [← State.producerFill, hring.producerFill_eq]
          omega)
        rw [slot_fill_add hring.rIdx hring.rAtP] at hold
        exact hold

/-- INIT's checks are the configuration's bounds, and the ring starts empty (R332). -/
theorem initRing_ringSafe {s : State} (hs : s.ringSafe) {hdr : BitVec 13} {cap : BitVec 14} {maxpkt : BitVec 13}
    (hlegal : s.initArgsLegal hdr cap maxpkt = true) (hram : cap.toNat * maxpkt.toNat ≤ s.params.ramBytes) :
    (s.initRing hdr cap maxpkt).ringSafe := by
  obtain ⟨⟨hparams, -⟩, -, -⟩ := hs
  simp only [State.initArgsLegal, Bool.and_eq_true, decide_eq_true_eq] at hlegal
  obtain ⟨⟨⟨⟨hcap, hcapMax⟩, hpkt⟩, hpktMax⟩, hhdr⟩ := hlegal
  have hcap : 1 ≤ cap.toNat := Nat.one_le_iff_ne_zero.mpr fun h => hcap (BitVec.eq_of_toNat_eq h)
  have hpkt : 1 ≤ maxpkt.toNat := Nat.one_le_iff_ne_zero.mpr fun h => hpkt (BitVec.eq_of_toNat_eq h)
  have hzero : (0 : BitVec 14).toNat < 2 * cap.toNat := Nat.mul_pos (by decide) hcap
  refine ⟨⟨hparams, hcap, hcapMax, hpkt, hpktMax, hhdr, hram⟩, ⟨hzero, hzero, hzero, hzero, ?_⟩, fun j hj => ?_⟩
  · have hempty : fill cap 0 0 = 0 := fill_self cap 0
    exact (congrArg (fun n => n + n + n) hempty).trans_le (Nat.zero_le _)
  · exact absurd (hj.trans_eq (fill_self cap 0)) (Nat.not_lt_zero j)

/-- Every move of the ring keeps its invariant. -/
theorem RingMove.keeps_ringSafe {s t : State} (h : RingMove s t) (hs : s.ringSafe) : t.ringSafe := by
  have hlegal : s.params.legal := hs.1.1
  cases h with
  | keeps h => exact h.ringSafe hs
  | adds b tag sy cycle ctr hready hroom hmin hmax h =>
    exact h.ringSafe (ringAdd_ringSafe hs tag sy cycle ctr hready hroom hmin hmax)
  | drops hready hpacket h => exact h.ringSafe (ringDrop_ringSafe hs hready hpacket)
  | syncs x hx h => exact h.ringSafe (sync_ringSafe hs hx)
  | opens hready h =>
    obtain ⟨⟨hcap, hmax, hhdr⟩, -⟩ := hs.cleared hready
    exact h.ringSafe (ringSafe_of_cleared hlegal hready hcap hmax hhdr rfl rfl rfl rfl)
  | inits hdr cap maxpkt hlc hargs hram h => exact h.ringSafe (initRing_ringSafe hs hargs hram)
  | tearsDown h => exact h.ringSafe (ringSafe_of_cleared hlegal rfl rfl rfl rfl rfl rfl rfl rfl)
  | resets h => exact h.ringSafe (ringSafe_of_cleared hlegal rfl rfl rfl rfl rfl rfl rfl rfl)

end Sys2Proof.Machine
end

section
/-! PROOFS. The ring's move of each instruction, request and step. For O58. -/

namespace Sys2Proof.Machine

/-! ### Instructions -/

/-- A meaning that is refused, or keeps the ring, makes no move. -/
theorem RingMove.of_refused_or {s t : State} {P : Prop} (h : refusedAs s t ∨ P) (hP : P → sameRing s t) :
    RingMove s t :=
  .keeps (h.elim refusedAs.sameRing hP)

theorem execOpenStream_ringMove {s t : State} (h : execOpenStream s = .next t) : RingMove s t := by
  rcases execOpenStream_cases h with h | ⟨hlc, ch, d, dim, -, rfl⟩
  · exact .keeps h.sameRing
  · have hready : s.lc.ringReady = false := Lifecycle.ringReady_false.mpr (.inl hlc)
    refine .opens hready ?_
    simp only [sameRing, State.ringView, State.clearIndices_lc, hready]
    rfl

theorem execInit_ringMove {s t : State} (h : execInit s = .next t) : RingMove s t := by
  rcases execInit_cases h with h | ⟨-, rfl⟩ | ⟨hlc, hdr, cap, maxpkt, hlegal, hram, rfl⟩
  · exact .keeps h.sameRing
  · exact .tearsDown rfl
  · exact .inits hdr cap maxpkt hlc hlegal hram rfl

theorem execStart_ringMove {s t : State} (h : execStart s = .next t) : RingMove s t := by
  refine .of_refused_or (execStart_cases h) ?_
  rintro ⟨hlc, rfl⟩
  have hready : s.lc.ringReady = true := by rcases hlc with hlc | hlc <;> rw [hlc] <;> rfl
  simp only [sameRing, State.ringView, hready]
  rfl

theorem execStop_ringMove {s t : State} (h : execStop s = .next t) : RingMove s t := by
  refine .of_refused_or (execStop_cases h) ?_
  rintro ⟨hlc, rfl⟩
  simp only [sameRing, State.ringView, hlc]
  rfl

theorem execRbAdd_ringMove {s t : State} (h : execRbAdd s = .next t) : RingMove s t := by
  rcases execRbAdd_cases h with h | ⟨-, rfl⟩ | ⟨hready, -, hroom, len, hmin, hmax, rfl⟩
  · exact .keeps h.sameRing
  · exact .keeps rfl
  · have hlen := s.txbBytes_length 0 len.toNat
    exact .adds (s.txbBytes 0 len.toNat) 0 0 0 0 hready hroom (hmin.trans_eq hlen.symm) (hlen.trans_le hmax) rfl

theorem execRbGet_ringMove {s t : State} (h : execRbGet s = .next t) : RingMove s t := by
  rcases execRbGet_cases h with h | ⟨-, rfl⟩ | ⟨hready, -, hpacket, rfl⟩
  · exact .keeps h.sameRing
  · exact .keeps rfl
  · exact .drops hready hpacket s.gotPacket_sameRing

theorem execSpDemux_sameRing {s t : State} (h : execSpDemux s = .next t) : sameRing s t := by
  rcases execSpDemux_cases h with h | ⟨-, -, -, ⟨e, -, rfl | rfl⟩ | ⟨N, -, rfl⟩⟩
  · exact h.sameRing
  · rfl
  · rfl
  · exact s.parseHeader.demuxPacket_sameRing N

theorem execIsoPut_ringMove {s t : State} {data : List Byte} {channel : BitVec 6} {tag : BitVec 2} {sy : BitVec 4}
    {cycle : BitVec 13} {dropped ctr : Word} (h : execIsoPut data channel tag sy cycle dropped ctr s = .next t) :
    RingMove s t := by
  rcases execIsoPut_cases h with rfl | ⟨hen, rfl⟩
  · exact .keeps rfl
  · simp only [State.putEnabled, Bool.and_eq_true, decide_eq_true_eq] at hen
    obtain ⟨⟨hlc, -⟩, -⟩ := hen
    have hready : s.lc.ringReady = true := hlc ▸ rfl
    rcases (s.addTo .llDropped dropped).receive_cases data channel tag sy cycle ctr with
        h | ⟨-, h⟩ | ⟨-, hmin, hmax, hroom, h⟩ <;>
      rw [h]
    · exact .keeps (by simp [sameRing, State.ringView, State.count])
    · exact .keeps (by simp [sameRing, State.ringView, State.count])
    · exact .adds data tag sy cycle ctr hready hroom hmin hmax (by simp [sameRing, State.ringView])

theorem execIsoGet_ringMove {s t : State} {cycle : BitVec 13} {dropped : Word} {maxLength : BitVec 16}
    (h : execIsoGet cycle dropped maxLength s = .next t) : RingMove s t := by
  rcases execIsoGet_cases h with rfl | ⟨hen, -, r, rfl⟩
  · exact .keeps rfl
  · simp only [State.getEnabled, Bool.and_eq_true, decide_eq_true_eq] at hen
    obtain ⟨⟨hlc, -⟩, -⟩ := hen
    have hready : s.lc.ringReady = true := hlc ▸ rfl
    rcases (s.addTo .llDropped dropped).transmit_cases maxLength.toNat with
        ⟨-, h⟩ | ⟨hpacket, h⟩ | ⟨hpacket, -, -, h⟩ <;>
      rw [h]
    · exact .keeps (by simp [sameRing, State.ringView, State.count])
    · exact .drops hready hpacket (by simp [sameRing, State.ringView, State.count])
    · exact .drops hready hpacket (by simp [sameRing, State.ringView])

/-- Every instruction that has a next state makes one of the moves. -/
theorem exec_ringMove {i : Instr} {s t : State} (h : exec i s = .next t) : RingMove s t := by
  cases i with
  | nop => exact .keeps (succeeds_next.mp h ▸ rfl)
  | openStream => exact execOpenStream_ringMove h
  | init => exact execInit_ringMove h
  | start => exact execStart_ringMove h
  | stop => exact execStop_ringMove h
  | close =>
    rcases execClose_cases h with h | ⟨-, rfl⟩
    · exact .keeps h.sameRing
    · exact .tearsDown rfl
  | resume => exact .of_refused_or (execResume_cases h) fun ⟨_, _, ht⟩ => ht ▸ rfl
  | setConfig => exact .of_refused_or (execSetConfig_cases h) fun ⟨_, _, ht⟩ => ht ▸ rfl
  | addPort => exact .of_refused_or (execAddPort_cases h) fun ⟨_, _, _, _, _, ht⟩ => ht ▸ rfl
  | removePort => exact .of_refused_or (execRemovePort_cases h) fun ⟨_, _, ht⟩ => ht ▸ rfl
  | rbAdd => exact execRbAdd_ringMove h
  | rbGet => exact execRbGet_ringMove h
  | rbFillPackets => exact .of_refused_or (execRbFillPackets_cases h) fun ⟨_, ht⟩ => ht ▸ rfl
  | rbFillPayload => exact .of_refused_or (execRbFillPayload_cases h) fun ⟨_, ht⟩ => ht ▸ rfl
  | spDemux => exact .keeps (execSpDemux_sameRing h)
  | spMux =>
    refine .of_refused_or (execSpMux_cases h) fun ⟨_, _, n, y, _, _, ht⟩ => ?_
    rw [ht]
    exact s.muxPacket_sameRing n.toNat y
  | portRead => exact .of_refused_or (execPortRead_cases h) fun ⟨_, _, _, _, _, _, ht⟩ => ht ▸ rfl
  | portWrite => exact .of_refused_or (execPortWrite_cases h) fun ⟨_, _, _, _, _, _, ht⟩ => ht ▸ rfl
  | midiDecode =>
    refine .of_refused_or (execMidiDecode_cases h) fun ⟨_, p, b, _, _, _, _, ht⟩ => ?_
    rw [ht]
    exact (sameButPorts_midiFeed s p b).sameRing
  | midiRead => exact .of_refused_or (execMidiRead_cases h) fun ⟨_, _, _, _, _, _, ht⟩ => ht ▸ rfl
  | midiEncode => exact .of_refused_or (execMidiEncode_cases h) fun ⟨_, _, _, _, _, _, ht⟩ => ht ▸ rfl
  | ctTicksToCycles => exact .keeps (execCtTicksToCycles_cases h).sameRing
  | ctCyclesToTicks => exact .of_refused_or (execCtCyclesToTicks_cases h) sameButResults.sameRing
  | ctReconstruct => exact .of_refused_or (execCtReconstruct_cases h) sameButResults.sameRing
  | ctToTicks => exact .of_refused_or (execCtToTicks_cases h) fun ⟨c, ht⟩ => ht.sameRing (s := s.extendTicks c)
  | ctFromTicks => exact .keeps (execCtFromTicks_cases h).sameRing
  | ctSytCheck =>
    refine .of_refused_or (execCtSytCheck_cases h) fun ⟨y, ts, ht⟩ => ht.sameRing.trans ?_
    rw [State.sytCheck_frame]
    rfl
  | isoPut data channel tag sy cycle dropped ctr => exact execIsoPut_ringMove h
  | isoGet cycle dropped maxLength => exact execIsoGet_ringMove (cycle := cycle) h
  | isoBusReset =>
    rcases execIsoBusReset_cases h with rfl | ⟨-, rfl⟩
    · exact .keeps rfl
    · exact .keeps rfl

/-! ### Requests and steps -/

theorem State.sync_ringMove (s : State) (x : CdcReg) : RingMove s (s.sync x) := by
  cases x with
  | w => exact .syncs .w (.inl rfl) rfl
  | r => exact .syncs .r (.inr rfl) rfl
  | cntOverflow | cntUnderflow =>
    refine .keeps ?_
    unfold State.sync
    dsimp only
    split <;> rfl
  | cntIsoProto | cntLlDropped | cntBusReset | isoDbcNext => exact .keeps rfl

theorem State.writeCsr_sameRing {s t : State} {r : Csr} {v : Word} (h : s.writeCsr r v = some t) : sameRing s t := by
  rcases State.writeCsr_cases h with ⟨a, rfl⟩ | ⟨-, rfl⟩ | ⟨-, -, rfl⟩ | ⟨-, -, rfl⟩ | ⟨a, -, rfl⟩ <;> rfl

/-- A host write moves the ring by the command that it runs, if it runs one. -/
theorem State.hostWrite_ringMove {s t : State} {bits off : Nat} {v : Word} (h : s.hostWrite bits off v = .next t) :
    ∃ u, sameRing s u ∧ RingMove u t := by
  rcases State.hostWrite_cases h with rfl | ⟨i, -, h⟩ | rfl | ⟨r, u, -, hu, rfl⟩
  · exact ⟨s, rfl, .keeps rfl⟩
  · exact ⟨State.answer { s with cmd := v } .written, rfl, exec_ringMove h⟩
  · exact ⟨s, rfl, .keeps rfl⟩
  · exact ⟨u, State.writeCsr_sameRing hu, .keeps rfl⟩

theorem State.perform_ringMove {s t : State} {q : Request} (h : s.perform q = .next t) :
    ∃ u, sameRing s u ∧ RingMove u t := by
  cases q with
  | hostRead bits off =>
    obtain ⟨r, hr⟩ := s.hostRead_cases bits off
    cases h
    exact ⟨s, rfl, .keeps (hr ▸ rfl)⟩
  | hostWrite bits off v => exact State.hostWrite_ringMove h
  | iso r =>
    obtain ⟨i, -, h⟩ := State.isoTransaction_cases h
    exact ⟨s, rfl, exec_ringMove h⟩
  | sync x =>
    cases h
    exact ⟨s, rfl, s.sync_ringMove x⟩
  | hwReset =>
    cases h
    exact ⟨s, rfl, .resets rfl⟩

/-- One step, said once for the ring: it makes one of the moves, from a state with the same ring. -/
theorem step_ringMove {s t : State} (h : step s = .next t) : ∃ u, sameRing s u ∧ RingMove u t := by
  rcases step_cases h with ⟨-, rfl⟩ | ⟨q, rest, -, h⟩
  · exact ⟨t, rfl, .keeps rfl⟩
  · exact State.perform_ringMove (s := s.begin rest) h

end Sys2Proof.Machine
end

section
open Sys2Proof Sys2Proof.Machine

/-- Settles O58: a step makes one of the ring's moves, and each move keeps the invariant. -/
theorem stepKeepsTheRingSafe : Obligations.StepKeepsTheRingSafe := by
  intro s t hs h
  obtain ⟨u, hsame, hmove⟩ := step_ringMove h
  exact hmove.keeps_ringSafe (hsame.ringSafe hs)

end

section
/-! PROOFS. The words a host read packs: STATUS (R54), a TXB word (R65), PORT (R63) and PORTSTAT (R64), field by field. For
O44. -/

namespace Sys2Proof.Machine

/-! ### PARAM words (R52) -/

/-- A word packed of two halves. -/
theorem halves_extract (hi lo : BitVec 16) :
    (hi ++ lo : Word).extractLsb' 0 16 = lo ∧ (hi ++ lo : Word).extractLsb' 16 16 = hi := by
  simp (disch := omega) only [BitVec.extractLsb'_append_eq_of_le, BitVec.extractLsb'_append_eq_of_add_le]
  simp

theorem wrapModeCode_bit (m : WrapMode) : (wrapModeCode m).getLsbD 0 = decide (m = .literal) := by
  cases m <;> rfl

theorem State.readCsr_param0 (s : State) :
    (s.readCsr .param0).extractLsb' 0 8 = BitVec.ofNat 8 s.params.nPorts ∧
    (s.readCsr .param0).getLsbD 8 = decide (s.params.wrapMode = .literal) ∧
    (s.readCsr .param0).extractLsb' 9 23 = 0 := by
  rw [← wrapModeCode_bit]
  unfold State.readCsr
  refine ⟨?_, ?_, ?_⟩
  · simp (disch := omega) [BitVec.extractLsb'_append_eq_of_add_le, -Nat.reduceAdd]
  · simp only [BitVec.getLsbD_append]
    simp
  · simp (disch := omega) [BitVec.extractLsb'_append_eq_of_le, -Nat.reduceAdd]

/-! ### STATUS (R54) -/

/-- STATUS shows the codes in R54's fields, and 0 above them. -/
theorem State.statusWord_codes (s : State) :
    s.statusWord.extractLsb' 0 3 = s.lc.code ∧ s.statusWord.extractLsb' 3 1 = s.dir.code ∧
    s.statusWord.extractLsb' 8 8 = s.err.code ∧ s.statusWord.extractLsb' 16 2 = s.tier.code ∧
    s.statusWord.extractLsb' 18 2 = s.opt.code ∧ s.statusWord.extractLsb' 21 11 = 0 := by
  unfold State.statusWord
  simp (disch := omega) [BitVec.extractLsb'_append_eq_of_le, BitVec.extractLsb'_append_eq_of_add_le, -Nat.reduceAdd]

/-- STATUS shows the flags at R54's bits. -/
theorem State.statusWord_flags (s : State) :
    s.statusWord.getLsbD 4 = s.brp ∧ s.statusWord.getLsbD 5 = s.cpktValid ∧ s.statusWord.getLsbD 6 = s.tsValid ∧
    s.statusWord.getLsbD 7 = s.sytmonHave ∧ s.statusWord.getLsbD 20 = s.ctHave := by
  unfold State.statusWord
  simp only [BitVec.getLsbD_append]
  simp

/-! ### TXB words (R65, R121) -/

/-- Each byte of a quadlet stands in its place, the first in bits [31:24]. -/
theorem be32_bytes (b0 b1 b2 b3 : Byte) :
    (be32 b0 b1 b2 b3).extractLsb' 24 8 = b0 ∧ (be32 b0 b1 b2 b3).extractLsb' 16 8 = b1 ∧
    (be32 b0 b1 b2 b3).extractLsb' 8 8 = b2 ∧ (be32 b0 b1 b2 b3).extractLsb' 0 8 = b3 := by
  unfold be32
  simp (disch := omega) [BitVec.extractLsb'_append_eq_of_le, BitVec.extractLsb'_append_eq_of_add_le, -Nat.reduceAdd]

theorem State.txbByte_of_lookup {s : State} {a : Nat} {b : Byte} (h : lookupAt s.txb a = some b) : s.txbByte a = b := by
  rw [State.txbByte, h, Option.getD_some]

theorem State.txbQuad_byte (s : State) (a : Nat) {j : Nat} (hj : j < 4) :
    (s.txbQuad a).extractLsb' (24 - 8 * j) 8 = s.txbByte (a + j) := by
  obtain ⟨h0, h1, h2, h3⟩ := be32_bytes (s.txbByte a) (s.txbByte (a + 1)) (s.txbByte (a + 2)) (s.txbByte (a + 3))
  interval_cases j
  · exact h0
  · exact h1
  · exact h2
  · exact h3

/-! ### PORT (R63, R67) -/

theorem entryEnabledBit_getLsbD (b : Nat) : entryEnabledBit.getLsbD b = decide (b = 5) := by
  have hbit : entryEnabledBit = BitVec.twoPow 32 5 := rfl
  rw [hbit, BitVec.getLsbD_twoPow]
  simp [eq_comm]

/-- Bit [5] of PORT is ENABLED, every other bit is the stored entry's. -/
theorem State.portWord_getLsbD (s : State) (p : Fin 64) (b : Nat) :
    (s.portWord p).getLsbD b = if b = 5 then s.portEnabled p else s.ports[p].entry.getLsbD b := by
  have hset : (if s.portEnabled p then entryEnabledBit else 0).getLsbD b = (s.portEnabled p && decide (b = 5)) := by
    cases s.portEnabled p with
    | true => exact entryEnabledBit_getLsbD b
    | false => exact BitVec.getLsbD_zero
  rw [State.portWord, BitVec.getLsbD_or, BitVec.getLsbD_and, BitVec.getLsbD_not, entryEnabledBit_getLsbD, hset]
  by_cases hb : b = 5
  · simp [hb]
  · simpa [hb] using BitVec.lt_of_getLsbD

/-- The place of a configuration in SUPPORTED and PRES is one of nine (R55, R176). -/
theorem configIndex_lt (tier : Tier) (opt : OptMode) : configIndex tier opt < 9 := by
  cases tier <;> cases opt <;> decide

/-- A port of the table is enabled by its VALID bit and its PRES bit of the current configuration (R67). -/
theorem State.portEnabled_eq {s : State} {p : Fin 64} (hp : p.val < s.params.nPorts) :
    s.portEnabled p =
      (s.ports[p].entry.getLsbD 0 && s.ports[p].entry.getLsbD (18 + 3 * s.opt.code.toNat + s.tier.code.toNat)) := by
  have hidx := configIndex_lt s.tier s.opt
  rw [State.portEnabled, decide_eq_true hp, Bool.true_and, State.entryEnabled, entryValid, entryPres,
    BitVec.getLsbD_extractLsb', decide_eq_true hidx, Bool.true_and, configIndex, Nat.add_assoc]

/-! ### PORTSTAT (R64) -/

theorem isMidiPort_rx {e : Word} :
    isMidiPort .rx e = true ↔ e.getLsbD 0 = true ∧ e.extractLsb' 2 2 = 1 ∧ e.getLsbD 1 = false := by
  rw [← entryType_midi, isMidiPort, entryValid, entryDir_eq]
  cases e.getLsbD 0 <;> cases e.getLsbD 1 <;> simp

/-- The items of the queue that the port's kind and direction choose (R64). -/
theorem Port.queued_eq (q : Port) :
    q.queued =
      if q.entry.getLsbD 0 = false then 0
      else if q.entry.extractLsb' 2 2 = 1 then if q.entry.getLsbD 1 = true then q.eq.length else q.mq.length
      else q.pf.length := by
  unfold Port.queued
  rw [entryValid, entryDir_eq]
  cases q.entry.getLsbD 0 with
  | false => rfl
  | true =>
    simp only [← entryType_midi]
    cases entryType q.entry with
    | midi => cases q.entry.getLsbD 1 <;> rfl
    | audio | control | reserved => rfl

/-- The number of queued items fits PORTSTAT's FILL field in a table that keeps its invariant (R7, R64). -/
theorem Port.queued_lt {s : State} {q : Port} (hlegal : s.params.legal) (hq : q.sound s) : q.queued < 2 ^ 16 := by
  rcases hq with rfl | ⟨-, -, hpf, hmq, heq, -⟩
  · decide
  · obtain ⟨-, -, -, -, ⟨-, hport⟩, ⟨-, hmsg⟩, -, htx⟩ := hlegal
    rw [Port.queued_eq]
    split_ifs <;> omega

/-- PORTSTAT shows the fill, and the decoder of a MIDI capture port; 0 stands in the decoder's place for every other
port. -/
theorem Port.statWord_fields (q : Port) :
    q.statWord.extractLsb' 0 16 = BitVec.ofNat 16 q.queued ∧
    q.statWord.extractLsb' 16 2 = (if isMidiPort .rx q.entry = true then q.md.ms.code else 0) ∧
    q.statWord.extractLsb' 18 6 = 0 ∧
    q.statWord.extractLsb' 24 8 = (if isMidiPort .rx q.entry = true then q.md.rsb else 0) := by
  unfold Port.statWord
  cases isMidiPort .rx q.entry with
  | true | false =>
    simp (disch := omega) [BitVec.extractLsb'_append_eq_of_le, BitVec.extractLsb'_append_eq_of_add_le, -Nat.reduceAdd]

end Sys2Proof.Machine
end

section
/-! PROOFS. What host reads, host writes and SYNC copies do, as whole next states. For O44, O46 and O47. -/

namespace Sys2Proof.Machine

/-! ### Host reads (R131) -/

/-- A host read of an existing register answers with its value and changes nothing else of the block. -/
theorem step_hostRead {s : State} {r : Csr} {rest : List Request} (hin : s.input = .hostRead 32 (csrOffset r) :: rest)
    (hr : csrExists s.params r = true) :
    step s = .next ((s.begin rest).answer (.readData ((s.begin rest).readCsr r))) := by
  rw [step_of_request hin, State.perform, State.hostRead, if_neg (by decide), State.begin_params, csrAt_csrOffset hr]

/-- Only the free bytes of TXB depend on the number of the request (log 5). -/
theorem State.readCsr_begin {s : State} {r : Csr} (rest : List Request) (hr : ∀ a, r ≠ .txb a) :
    (s.begin rest).readCsr r = s.readCsr r := by
  cases r with
  | txb a => exact absurd rfl (hr a)
  | counter k => cases k <;> rfl
  | _ => rfl

/-- The write index in the APP domain (R59). -/
theorem State.appW_eq (s : State) : s.appW = if s.dir = .rx then s.wAtC else s.wIdx := by
  unfold State.appW
  cases s.dir <;> rfl

/-- The read index in the APP domain (R59). -/
theorem State.appR_eq (s : State) : s.appR = if s.dir = .rx then s.rIdx else s.rAtP := by
  unfold State.appR
  cases s.dir <;> rfl

/-- The two counters that the direction gives to ISO or APP (R61, R126). -/
theorem State.readCounter_overflow (s : State) :
    s.readCounter .overflow = if s.dir = .rx then s.shadows.overflow else s.counters.overflow := by
  unfold State.readCounter
  cases s.dir <;> rfl

theorem State.readCounter_underflow (s : State) :
    s.readCounter .underflow = if s.dir = .rx then s.counters.underflow else s.shadows.underflow := by
  unfold State.readCounter
  cases s.dir <;> rfl

/-! ### SYNC of the counters that one direction alone shadows (R126, log 8) -/

theorem State.sync_cntOverflow (s : State) : s.sync .cntOverflow =
    if s.dir = .rx then { s with shadows := { s.shadows with overflow := s.counters.overflow } } else s := by
  cases hdir : s.dir <;> simp [State.sync, hdir]

theorem State.sync_cntUnderflow (s : State) : s.sync .cntUnderflow =
    if s.dir = .tx then { s with shadows := { s.shadows with underflow := s.counters.underflow } } else s := by
  cases hdir : s.dir <;> simp [State.sync, hdir]

/-! ### Host writes (R131) -/

/-- A host write that a register other than CMD accepts stores into that register alone. -/
theorem step_hostWrite {s u : State} {r : Csr} {v : Word} {rest : List Request}
    (hin : s.input = .hostWrite 32 (csrOffset r) v :: rest) (hr : csrExists s.params r = true) (hcmd : r ≠ .cmd)
    (hu : (s.begin rest).writeCsr r v = some u) : step s = .next (u.answer .written) := by
  rw [step_of_request hin, State.perform, State.hostWrite, if_neg (by decide), State.begin_params, csrAt_csrOffset hr]
  split
  · contradiction
  · next h => exact absurd (Option.some.inj h) hcmd
  · next h =>
    cases h
    rw [hu]

/-- SUPPORTED's reserved bits are [31:9] (R55). -/
theorem supportedReserved_clear {v : Word} (h : v.extractLsb' 9 23 = 0) : v &&& supportedReserved = 0 := by
  apply BitVec.eq_of_getLsbD_eq
  intro i hi
  simp only [BitVec.getLsbD_and, BitVec.ofNat_eq_ofNat, BitVec.getLsbD_zero]
  by_cases hlow : i < 9
  · have hmask : supportedReserved.getLsbD i = false := by
      clear hi
      revert i
      decide
    rw [hmask, Bool.and_false]
  · have hbit := getLsbD_of_extract h (i := i - 9) (by omega)
    rw [show 9 + (i - 9) = i by omega] at hbit
    rw [hbit, Bool.false_and]

/-- A quadlet's bytes in wire order (R121). -/
theorem putBe32_getElem (v : Word) {j : Nat} (hj : j < 4) : (putBe32 v)[j] = v.extractLsb' (24 - 8 * j) 8 := by
  interval_cases j <;> rfl

end Sys2Proof.Machine
end

section
open Sys2Proof Sys2Proof.Machine

/-- Settles O47, register by register. -/
theorem syncCopiesOneRegister : Obligations.SyncCopiesOneRegister := by
  intro s x rest hin
  rw [step_of_request hin]
  cases x with
  | cntOverflow => exact congrArg Host.Outcome.next (s.begin rest).sync_cntOverflow
  | cntUnderflow => exact congrArg Host.Outcome.next (s.begin rest).sync_cntUnderflow
  | _ => rfl

/-- Settles O46: each register takes the word, and TXB its four bytes. -/
theorem hostWritesStoreTheValue : Obligations.HostWritesStoreTheValue := by
  intro s off v rest hin t
  refine ⟨?arg, ?supported, ?txCip, ?txIso, ?txb⟩
  case arg =>
    rintro i rfl
    exact step_hostWrite (r := .arg i) hin rfl Csr.noConfusion rfl
  case supported =>
    rintro rfl hres
    exact step_hostWrite (r := .supported) hin rfl Csr.noConfusion (if_pos (supportedReserved_clear hres))
  case txCip =>
    rintro rfl hres hlc
    exact step_hostWrite (r := .txCip) hin rfl Csr.noConfusion (if_pos ⟨hres, hlc⟩)
  case txIso =>
    rintro rfl hres hlc
    exact step_hostWrite (r := .txIso) hin rfl Csr.noConfusion (if_pos ⟨hres, hlc⟩)
  case txb =>
    rintro a rfl halign ha
    refine ⟨writeBytes s.txb a (putBe32 v), ?_, fun j hj => ?_, fun b hb => ?_⟩
    · exact step_hostWrite (r := .txb a) hin (decide_eq_true ⟨ha, halign⟩) Csr.noConfusion rfl
    · rw [lookupAt_writeBytes_inside s.txb a (putBe32 v) j hj, putBe32_getElem v hj]
    · exact lookupAt_writeBytes_outside s.txb a (putBe32 v) b hb

/-- Settles O44: the step answers with the register's word, and each word has its fields. -/
theorem hostReadsHaveNoSideEffect : Obligations.HostReadsHaveNoSideEffect := by
  rintro s off r rest hin hr rfl
  refine ⟨(s.begin rest).readCsr r, step_hostRead hin hr, State.readCsr_begin rest, ?_⟩
  cases r with
  | param0 => exact (s.begin rest).readCsr_param0
  | param2 | param3 | param4 => exact halves_extract _ _
  | status =>
    obtain ⟨hlc, hdir, herr, htier, hopt, hzero⟩ := (s.begin rest).statusWord_codes
    obtain ⟨hbrp, hcpkt, hts, hsytmon, hct⟩ := (s.begin rest).statusWord_flags
    exact ⟨hlc, hdir, hbrp, hcpkt, hts, hsytmon, herr, htier, hopt, hct, hzero⟩
  | chan | dim | dbcTx | rbHdrSize | rbCap | rbMaxPkt | cpktLen | ctLastSec | isoDbcNext =>
    exact BitVec.toNat_setWidth_of_le (by decide)
  | rbWIdx =>
    have happ : s.appW.toNat = if s.dir = .rx then s.wAtC.toNat else s.wIdx.toNat := by
      rw [State.appW_eq, apply_ite BitVec.toNat]
    exact (BitVec.toNat_setWidth_of_le (by decide)).trans happ
  | rbRIdx =>
    have happ : s.appR.toNat = if s.dir = .rx then s.rIdx.toNat else s.rAtP.toNat := by
      rw [State.appR_eq, apply_ite BitVec.toNat]
    exact (BitVec.toNat_setWidth_of_le (by decide)).trans happ
  | counter k =>
    cases k with
    | overflow => exact s.readCounter_overflow
    | underflow => exact s.readCounter_underflow
    | _ => rfl
  | port p =>
    have hbits := (s.begin rest).portWord_getLsbD p
    refine ⟨fun b hb => (hbits b).trans (if_neg hb), (hbits 5).trans ?_⟩
    exact State.portEnabled_eq (s := s) (of_decide_eq_true hr)
  | portStat p =>
    obtain ⟨hfill, hstate, hgap, hrs⟩ := s.ports[p].statWord_fields
    have hitems := s.ports[p].queued_eq
    rw [if_congr isMidiPort_rx rfl rfl] at hstate hrs
    refine ⟨hfill.trans (congrArg _ hitems), fun hlegal hsound => ?_, ?_, hgap, hrs⟩
    · have hlt : s.ports[p].queued < 2 ^ 16 := Port.queued_lt hlegal (hsound.1 p)
      exact (congrArg BitVec.toNat hfill).trans ((Nat.mod_eq_of_lt hlt).trans hitems)
    · refine hstate.trans ?_
      cases s.ports[p].md.ms <;> rfl
  | txb a =>
    intro j b hj hb
    exact ((s.begin rest).txbQuad_byte a hj).trans (State.txbByte_of_lookup (s := s.begin rest) hb)
  | _ => rfl

end

section
/-! PROOFS. Decoding and encoding read both ways (R180, R184, R185), for O1, O2 and O3. -/

namespace Sys2Proof

/-! ### CMD words (R180, R184) -/

/-- The reserved bits CMD[31:8] are 0 exactly in the words of one byte (R180). -/
theorem cmdReservedBits_eq_zero_iff (w : Word) : w.extractLsb' 8 24 = 0 ↔ w.toNat < 256 := by
  rw [← BitVec.toNat_inj, BitVec.extractLsb'_toNat, Nat.shiftRight_eq_div_pow]
  have := w.isLt
  simp only [BitVec.ofNat_eq_ofNat, BitVec.toNat_ofNat]
  omega

/-- In a word of one byte CMD[7:0] is the whole word. -/
theorem cmdOpcode_toNat {w : Word} (h : w.toNat < 256) : (w.extractLsb' 0 8).toNat = w.toNat := by
  rw [BitVec.extractLsb'_toNat, Nat.shiftRight_zero, Nat.mod_eq_of_lt h]

/-- Every row of the opcode map fits CMD[7:0], and the encoder gives its instruction the row's opcode (R180). -/
theorem commandTable_rows :
    ∀ x ∈ commandTable, x.1 < 256 ∧ x.2.wellFormed = true ∧ encode x.2 = .cmd (BitVec.ofNat 32 x.1) := by decide

theorem mem_commandTable_of_lookup {n : Nat} {i : Instr} (h : commandTable.lookup n = some i) :
    (n, i) ∈ commandTable := by
  obtain ⟨l, m, hl, -⟩ := List.lookup_eq_some_iff.mp h
  simp [hl]

/-- A CMD word decodes to what the opcode map holds for all 32 of its bits (R180, R184). -/
theorem decodeCmd_eq_ok_iff {w : Word} {i : Instr} : decodeCmd w = .ok i ↔ commandTable.lookup w.toNat = some i := by
  unfold decodeCmd
  split
  · next hreserved =>
    have hlookup : commandTable.lookup w.toNat ≠ some i := fun h =>
      hreserved ((cmdReservedBits_eq_zero_iff w).mpr (commandTable_rows _ (mem_commandTable_of_lookup h)).1)
    simp [hlookup]
  · next hclear =>
    rw [cmdOpcode_toNat ((cmdReservedBits_eq_zero_iff w).mp (not_not.mp hclear))]
    split <;> simp [*]

/-- The opcodes of the map (R180). -/
theorem commandTable_lookup_iff (n : Nat) :
    (∃ i, commandTable.lookup n = some i) ↔
      n ≤ 0x06 ∨ (0x08 ≤ n ∧ n ≤ 0x0A) ∨ (0x10 ≤ n ∧ n ≤ 0x13) ∨ (0x18 ≤ n ∧ n ≤ 0x1B) ∨ (0x20 ≤ n ∧ n ≤ 0x22) ∨
        (0x28 ≤ n ∧ n ≤ 0x2D) := by
  rw [← Option.isSome_iff_exists, List.lookup_isSome_iff]
  simp only [commandTable, beq_iff_eq, List.exists_mem_cons_iff, List.not_mem_nil, false_and, exists_false, or_false]
  omega

/-- The encoder gives a decoded CMD word back (R180). -/
theorem encode_of_decodeCmd {w : Word} {i : Instr} (h : decodeCmd w = .ok i) : encode i = .cmd w := by
  obtain ⟨-, -, hencode⟩ := commandTable_rows _ (mem_commandTable_of_lookup (decodeCmd_eq_ok_iff.mp h))
  rw [hencode, BitVec.ofNat_toNat, BitVec.setWidth_eq]

theorem decodeCmd_wellFormed {w : Word} {i : Instr} (h : decodeCmd w = .ok i) : i.wellFormed = true := by
  obtain ⟨-, hwf, -⟩ := commandTable_rows _ (mem_commandTable_of_lookup (decodeCmd_eq_ok_iff.mp h))
  exact hwf

/-! ### ISO transactions (R185) -/

/-- Only the length of an ISO_PUT is not bounded by its type, and the decoder checks it. -/
theorem decodeIso_wellFormed {r : IsoRecord} {i : Instr} (h : decodeIso r = .ok i) : i.wellFormed = true := by
  unfold decodeIso at h
  split_ifs at h with hput hlength hget hreset <;> cases h
  · exact decide_eq_true hlength
  · rfl
  · rfl

/-! ### Both forms -/

theorem decode_wellFormed {e : Encoded} {i : Instr} (h : decode e = .ok i) : i.wellFormed = true := by
  cases e with
  | cmd w => exact decodeCmd_wellFormed h
  | iso r => exact decodeIso_wellFormed h

/-- Only an ISO_PUT needs its well-formedness; any other instruction is encoded by a form that decodes to it as it
stands. -/
theorem decode_encode {i : Instr} (h : i.wellFormed = true) : decode (encode i) = .ok i := by
  cases i with
  | isoPut data channel tag sy cycle dropped ctr => exact Laws.RoundTrip.isoPut data channel tag sy cycle dropped ctr h
  | _ => rfl

end Sys2Proof

namespace Sys2Proof.Machine

/-- A CMD word that encodes no instruction is stored and ends with E_OPCODE (R53, R180). -/
theorem State.writeCmd_of_not_decode {w : Word} (h : ∀ i, decodeCmd w ≠ .ok i) (s : State) :
    s.writeCmd w = ({ s with cmd := w }.answer .written).fails .eOpcode := by
  unfold State.writeCmd
  split
  · next i hi => exact absurd hi (h i)
  · rfl

end Sys2Proof.Machine
end

section
open Sys2Proof Sys2Proof.Machine

/-- Settles O3. -/
theorem sampleWordsDecode : Obligations.SampleWordsDecode := by
  unfold Obligations.SampleWordsDecode
  decide

/-- Settles O2: the decoder looks all 32 bits up in the opcode map, and a write of CMD raises E_OPCODE where it finds
nothing. -/
theorem onlyMappedOpcodesExecute : Obligations.OnlyMappedOpcodesExecute := by
  refine fun w => ⟨?_, fun hnone s rest hin => ?_⟩
  · simp only [decodeCmd_eq_ok_iff]
    exact commandTable_lookup_iff w.toNat
  · rw [step_of_request hin]
    exact ((s.begin rest).hostWrite_cmd w).trans (State.writeCmd_of_not_decode hnone _)

/-- Settles O1: the three directions of the agreement. -/
theorem decodeAndEncodeAgree : Obligations.DecodeAndEncodeAgree :=
  ⟨fun _ => decode_encode, fun _ _ => decode_wellFormed, fun _ _ => encode_of_decodeCmd⟩

end

section
/-! PROOFS. The words of the cycle timer as numbers: the fields of a CTR value (R173) and of a SYT (R172), the halves
of a 64-bit count, and RES after several results. For O29 to O37. -/

namespace Sys2Proof.Machine

/-! ### CTR values (R173, R230) -/

theorem ctrSec_toNat (t : Word) : (ctrSec t).toNat = t.toNat / 2 ^ 25 := by
  have := t.isLt
  rw [ctrSec, BitVec.extractLsb'_toNat, Nat.shiftRight_eq_div_pow]
  omega

theorem ctrCyc_toNat (t : Word) : (ctrCyc t).toNat = t.toNat / 2 ^ 12 % 2 ^ 13 := by
  rw [ctrCyc, BitVec.extractLsb'_toNat, Nat.shiftRight_eq_div_pow]

theorem ctrOff_toNat (t : Word) : (ctrOff t).toNat = t.toNat % 2 ^ 12 := by
  rw [ctrOff, BitVec.extractLsb'_toNat, Nat.shiftRight_zero]

theorem makeCtr_toNat (sec : BitVec 7) (cyc : BitVec 13) (off : BitVec 12) :
    (makeCtr sec cyc off).toNat = sec.toNat * 2 ^ 25 + cyc.toNat * 2 ^ 12 + off.toNat := by
  rw [makeCtr, toNat_append_add, toNat_append_add]
  omega

theorem makeCtr_eq_ofNat (sec : BitVec 7) (cyc : BitVec 13) (off : BitVec 12) :
    makeCtr sec cyc off = BitVec.ofNat 32 (sec.toNat * 2 ^ 25 + cyc.toNat * 2 ^ 12 + off.toNat) := by
  rw [← makeCtr_toNat, BitVec.ofNat_toNat, BitVec.setWidth_eq]

/-- Each field of a packed CTR value is the one it was packed from. -/
@[simp] theorem ctrSec_makeCtr (sec : BitVec 7) (cyc : BitVec 13) (off : BitVec 12) :
    ctrSec (makeCtr sec cyc off) = sec := by
  apply BitVec.eq_of_toNat_eq
  rw [ctrSec_toNat, makeCtr_toNat]
  omega

@[simp] theorem ctrCyc_makeCtr (sec : BitVec 7) (cyc : BitVec 13) (off : BitVec 12) :
    ctrCyc (makeCtr sec cyc off) = cyc := by
  apply BitVec.eq_of_toNat_eq
  rw [ctrCyc_toNat, makeCtr_toNat]
  omega

@[simp] theorem ctrOff_makeCtr (sec : BitVec 7) (cyc : BitVec 13) (off : BitVec 12) :
    ctrOff (makeCtr sec cyc off) = off := by
  apply BitVec.eq_of_toNat_eq
  rw [ctrOff_toNat, makeCtr_toNat]
  omega

/-- A CTR value is packed of its fields. -/
theorem makeCtr_fields (t : Word) : makeCtr (ctrSec t) (ctrCyc t) (ctrOff t) = t := by
  apply BitVec.eq_of_toNat_eq
  rw [makeCtr_toNat, ctrSec_toNat, ctrCyc_toNat, ctrOff_toNat]
  omega

theorem ctrValid_iff (t : Word) : ctrValid t = true ↔ (ctrCyc t).toNat < 8000 ∧ (ctrOff t).toNat < 3072 := by
  rw [ctrValid, Bool.and_eq_true, decide_eq_true_iff, decide_eq_true_iff]
  rfl

/-! ### SYT (R172, R230) -/

theorem sytNib_toNat (y : BitVec 16) : (sytNib y).toNat = y.toNat / 2 ^ 12 := by
  have := y.isLt
  rw [sytNib, BitVec.extractLsb'_toNat, Nat.shiftRight_eq_div_pow]
  omega

theorem sytOff_toNat (y : BitVec 16) : (sytOff y).toNat = y.toNat % 2 ^ 12 := by
  rw [sytOff, BitVec.extractLsb'_toNat, Nat.shiftRight_zero]

/-- A SYT operand's offset is the register's, whatever stands above the field. -/
theorem sytOff_setWidth_toNat (x : Word) : (sytOff (x.setWidth 16)).toNat = x.toNat % 2 ^ 12 := by
  rw [sytOff_toNat, BitVec.toNat_setWidth, Nat.mod_mod_of_dvd _ (by decide)]

theorem sytValid_iff (y : BitVec 16) : sytValid y = true ↔ (sytOff y).toNat < 3072 := by
  rw [sytValid, decide_eq_true_iff]
  rfl

/-- The low 16 bits of a CTR value are the SYT that has its offset and the low 4 bits of its cycle. -/
theorem extractLsb'_eq_syt {t : Word} {y : BitVec 16} (hoff : ctrOff t = sytOff y)
    (hcyc : (ctrCyc t).toNat % 16 = (sytNib y).toNat) : t.extractLsb' 0 16 = y := by
  have hoff := congrArg BitVec.toNat hoff
  rw [ctrOff_toNat, sytOff_toNat] at hoff
  rw [ctrCyc_toNat, sytNib_toNat] at hcyc
  apply BitVec.eq_of_toNat_eq
  rw [BitVec.extractLsb'_toNat, Nat.shiftRight_zero]
  omega

/-! ### The halves of a 64-bit count -/

theorem lowWord_mod (v : Nat) : lowWord (v % 2 ^ 32) = lowWord v :=
  BitVec.eq_of_toNat_eq (by simp [lowWord])

theorem lowWord_toNat (v : Nat) : (lowWord v).toNat = v % 2 ^ 32 := BitVec.toNat_ofNat v 32

theorem highWord_toNat (v : Nat) : (highWord v).toNat = v / 2 ^ 32 % 2 ^ 32 := BitVec.toNat_ofNat _ 32

/-- A 64-bit count whose high word is 0 is its low word. -/
theorem lowWord_toNat_of_highWord {v : Nat} (hv : v < 2 ^ 64) (h : highWord v = 0) : (lowWord v).toNat = v := by
  have hzero : v / 2 ^ 32 % 2 ^ 32 = 0 := (highWord_toNat v).symm.trans (congrArg BitVec.toNat h)
  rw [lowWord_toNat]
  omega

/-- The operand `ARG1 : ARG0` that holds the halves of a count is the count (R231, R240). -/
theorem State.argTicks_of_halves {s : State} {v : Nat} (hv : v < 2 ^ 64) (hlow : s.arg[0] = lowWord v)
    (hhigh : s.arg[1] = highWord v) : s.argTicks = v := by
  rw [State.argTicks, hlow, hhigh, lowWord_toNat, highWord_toNat]
  omega

theorem State.argTicks_lt (s : State) : s.argTicks < 2 ^ 64 := by
  have hlow := s.arg[0].isLt
  have hhigh := s.arg[1].isLt
  rw [State.argTicks]
  omega

/-- The halves of the operand `ARG1 : ARG0` are its registers. -/
theorem State.halves_argTicks (s : State) : lowWord s.argTicks = s.arg[0] ∧ highWord s.argTicks = s.arg[1] := by
  have hlow := s.arg[0].isLt
  have hhigh := s.arg[1].isLt
  constructor <;> apply BitVec.eq_of_toNat_eq
  · rw [lowWord_toNat, State.argTicks]
    omega
  · rw [highWord_toNat, State.argTicks]
    omega

/-! ### RES after several results -/

theorem res_set_two (r : Vector Word 4) (v0 v1 : Word) : (r.set 0 v0).set 1 v1 = #v[v0, v1, r[2], r[3]] := by
  rw [res_set_zero]
  rfl

theorem res_set_three (r : Vector Word 4) (v0 v1 v2 : Word) :
    ((r.set 0 v0).set 1 v1).set 2 v2 = #v[v0, v1, v2, r[3]] := by
  rw [res_set_two]
  rfl

theorem res_set_four (r : Vector Word 4) (v0 v1 v2 v3 : Word) :
    (((r.set 0 v0).set 1 v1).set 2 v2).set 3 v3 = #v[v0, v1, v2, v3] := by
  rw [res_set_three]
  rfl

end Sys2Proof.Machine
end

section
/-! PROOFS. The functions of the cycle timer in natural numbers: reconstruction (R233, R234, R236, R237), the tick
counts (R238, R240) and the SYT monitor (R241). For O31 to O37. -/

namespace Sys2Proof.Machine

/-! ### Reconstruction (R233, R234) -/

theorem reconWrap_eq_true {y : BitVec 16} {t : Word} :
    reconWrap y t = true ↔ (sytNib y).toNat < (ctrCyc t).toNat % 16 := by simp [reconWrap]

theorem reconBase_eq (y : BitVec 16) (t : Word) :
    reconBase y t = (ctrCyc t).toNat - (ctrCyc t).toNat % 16 + (sytNib y).toNat +
      if (sytNib y).toNat < (ctrCyc t).toNat % 16 then 16 else 0 := by
  simp only [reconBase, reconWrap_eq_true]

/-- The cycle before the carry is the first one at or after the receipt cycle whose low 4 bits are the SYT's nibble. -/
theorem reconBase_spec (y : BitVec 16) (t : Word) :
    (∃ d, d ≤ 15 ∧ reconBase y t = (ctrCyc t).toNat + d) ∧ reconBase y t % 16 = (sytNib y).toNat := by
  have hnib := (sytNib y).isLt
  rw [reconBase_eq]
  split
  · next hwrap => exact ⟨⟨(sytNib y).toNat + 16 - (ctrCyc t).toNat % 16, by omega, by omega⟩, by omega⟩
  · next hwrap => exact ⟨⟨(sytNib y).toNat - (ctrCyc t).toNat % 16, by omega, by omega⟩, by omega⟩

/-- A valid receipt cycle leaves at most 15 cycles past the second, so the cycle fits its field before the carry too. -/
theorem reconBase_le {t : Word} (ht : ctrValid t = true) (y : BitVec 16) : reconBase y t ≤ 8014 := by
  obtain ⟨hcyc, -⟩ := (ctrValid_iff t).mp ht
  obtain ⟨⟨d, hd, hbase⟩, -⟩ := reconBase_spec y t
  omega

theorem sec_add_one_toNat (e : BitVec 7) : (e + 1).toNat = (e.toNat + 1) % 128 := BitVec.toNat_add e 1

theorem carry_normalised_toNat {base : Nat} (h : base ≤ 8014) (e : BitVec 7) (wrap : Bool) :
    (carry .normalised base e wrap).1.toNat = (if 8000 ≤ base then base - 8000 else base) ∧
    (carry .normalised base e wrap).2.toNat = if 8000 ≤ base then (e.toNat + 1) % 128 else e.toNat := by
  have hcarry : carry .normalised base e wrap =
      if 8000 ≤ base then (BitVec.ofNat 13 (base - 8000), e + 1) else (BitVec.ofNat 13 base, e) := rfl
  rw [hcarry]
  split_ifs
  · exact ⟨(BitVec.toNat_ofNat _ 13).trans (Nat.mod_eq_of_lt (by omega)), sec_add_one_toNat e⟩
  · exact ⟨(BitVec.toNat_ofNat _ 13).trans (Nat.mod_eq_of_lt (by omega)), rfl⟩

theorem carry_literal_toNat {base : Nat} (h : base ≤ 8014) (e : BitVec 7) (wrap : Bool) :
    (carry .literal base e wrap).1.toNat = base ∧
    (carry .literal base e wrap).2.toNat = if wrap then (e.toNat + 1) % 128 else e.toNat := by
  refine ⟨?_, ?_⟩
  · exact (BitVec.toNat_ofNat base 13).trans (Nat.mod_eq_of_lt (by omega))
  · rw [← sec_add_one_toNat, ← apply_ite BitVec.toNat, carry]

/-- A second has a whole number of 16-cycle wraps, so no carry changes the low 4 bits of the cycle. -/
theorem carry_cycle_mod {base : Nat} (h : base ≤ 8014) (mode : WrapMode) (e : BitVec 7) (wrap : Bool) :
    (carry mode base e wrap).1.toNat % 16 = base % 16 := by
  cases mode with
  | normalised =>
    rw [(carry_normalised_toNat h e wrap).1]
    split <;> omega
  | literal => rw [(carry_literal_toNat h e wrap).1]

theorem recon_fst (mode : WrapMode) (y : BitVec 16) (t : Word) (e : BitVec 7) :
    (recon mode y t e).1 = makeCtr (carry mode (reconBase y t) e (reconWrap y t)).2
      (carry mode (reconBase y t) e (reconWrap y t)).1 (sytOff y) := rfl

/-- The fields of a reconstructed timestamp (R233). -/
theorem recon_fields (mode : WrapMode) (y : BitVec 16) (t : Word) (e : BitVec 7) :
    ctrSec (recon mode y t e).1 = (carry mode (reconBase y t) e (reconWrap y t)).2 ∧
    ctrCyc (recon mode y t e).1 = (carry mode (reconBase y t) e (reconWrap y t)).1 ∧
    ctrOff (recon mode y t e).1 = sytOff y :=
  ⟨ctrSec_makeCtr .., ctrCyc_makeCtr .., ctrOff_makeCtr ..⟩

/-! ### Tick counts (R238, R240) -/

theorem tickOf_eq (t : Word) (k : Nat) :
    tickOf t k = ((k * 128 + (ctrSec t).toNat) * 8000 + (ctrCyc t).toNat) * 3072 + (ctrOff t).toNat := rfl

/-- The ticks of a valid CTR value in a 32-bit epoch fit 64 bits. -/
theorem tickOf_lt {t : Word} (ht : ctrValid t = true) (k : Word) : tickOf t k.toNat < 2 ^ 64 := by
  obtain ⟨hcyc, hoff⟩ := (ctrValid_iff t).mp ht
  have hsec := (ctrSec t).isLt
  have hk := k.isLt
  rw [tickOf_eq]
  omega

/-- R240's corner case: the CTR value of the ticks of a valid CTR value is that value, in every epoch. -/
theorem ctrOfTicks_tickOf {t : Word} (ht : ctrValid t = true) (k : Nat) : ctrOfTicks (tickOf t k) = t := by
  obtain ⟨hcyc, hoff⟩ := (ctrValid_iff t).mp ht
  have hsec := (ctrSec t).isLt
  have hs : tickOf t k / 24576000 % 128 = (ctrSec t).toNat := by rw [tickOf_eq]; omega
  have hc : tickOf t k / 3072 % 8000 = (ctrCyc t).toNat := by rw [tickOf_eq]; omega
  have ho : tickOf t k % 3072 = (ctrOff t).toNat := by rw [tickOf_eq]; omega
  unfold ctrOfTicks Config.ticksPerSecond Config.secondsMod Config.ticksPerCycle Config.cyclesPerSecond
  rw [hs, hc, ho]
  simpa using makeCtr_fields t

theorem ctrOfTicks_eq (v : Nat) :
    ctrOfTicks v = BitVec.ofNat 32 (v / 24576000 % 128 * 2 ^ 25 + v / 3072 % 8000 * 2 ^ 12 + v % 3072) := by
  apply BitVec.eq_of_toNat_eq
  unfold ctrOfTicks Config.ticksPerSecond Config.secondsMod Config.ticksPerCycle Config.cyclesPerSecond
  rw [makeCtr_toNat]
  simp only [BitVec.toNat_ofNat]
  omega

/-! ### The SYT monitor (R241) -/

theorem tick128_eq (t : Word) :
    tick128 t = (t.toNat / 2 ^ 25 * 8000 + t.toNat / 2 ^ 12 % 2 ^ 13) * 3072 + t.toNat % 2 ^ 12 := by
  rw [← ctrSec_toNat, ← ctrCyc_toNat, ← ctrOff_toNat]
  rfl

theorem tick128_cast (t : Word) :
    (tick128 t : Int) = ((t.toNat : Int) / 2 ^ 25 * 8000 + (t.toNat : Int) / 2 ^ 12 % 2 ^ 13) * 3072 +
      (t.toNat : Int) % 2 ^ 12 := by
  rw [tick128_eq]
  push_cast
  rfl

/-- CNT_SYTMON counts the suspect timestamps. -/
theorem ite_add_sytmon (c : Counters) (suspect : Bool) :
    (if suspect then c.add .sytmon 1 else c) = { c with sytmon := c.sytmon + if suspect then 1 else 0 } := by
  cases suspect with
  | false => simp
  | true => rfl

theorem State.sytBackward_eq (s : State) (ts : Word) :
    s.sytBackward ts = (s.sytmonHave && decide ((1572864000 : Int) ≤
      ((tick128 ts : Int) - (tick128 s.sytmonLast : Int)) % 3145728000)) := rfl

/-- The two flags a check returns, as a number. -/
theorem State.sytResult_eq (s : State) (y : BitVec 16) (ts : Word) :
    s.sytResult y ts = (if sytMismatch y ts then 1 else 0) + (if s.sytBackward ts then 2 else 0) := by
  unfold State.sytResult
  cases sytMismatch y ts <;> cases s.sytBackward ts <;> rfl

/-- An operand of 16 bits mismatches a timestamp whose low 16 bits are another number. -/
theorem sytMismatch_setWidth {x : Word} (hx : x.toNat < 2 ^ 16) (ts : Word) :
    sytMismatch (x.setWidth 16) ts = decide (ts.toNat % 2 ^ 16 ≠ x.toNat) := by
  rw [sytMismatch, decide_eq_decide, ne_eq, ← BitVec.toNat_inj, BitVec.extractLsb'_toNat, Nat.shiftRight_zero,
    BitVec.toNat_setWidth, Nat.mod_eq_of_lt hx]

end Sys2Proof.Machine
end

section
/-! PROOFS. The six commands of the cycle timer as whole next states (R231, R232, R235, R239, R240, R242). For O29 to
O37. -/

namespace Sys2Proof.Machine

/-- `succeeds` of a state that differs from `s` in RES alone. -/
theorem succeeds_of_res {s t : State} {r : Vector Word 4} (h : t = { s with res := t.res }) (hr : t.res = r) :
    t.succeeds = .next { s with res := r, err := .ok } := by
  rw [← hr, h]
  rfl

/-! ### CT_TICKS_TO_CYCLES and CT_CYCLES_TO_TICKS (R231, R232) -/

theorem execCtTicksToCycles_eq (s : State) :
    execCtTicksToCycles s = .next { s with
      res := #v[lowWord (s.argTicks / 3072 % 8000), lowWord (s.argTicks % 3072), lowWord (s.argTicks / 3072),
        highWord (s.argTicks / 3072)]
      err := .ok } :=
  succeeds_of_res (s := s) rfl (res_set_four ..)

/-- CT_TICKS_TO_CYCLES leaves the offset in RES1 and the halves of the total cycles in RES3:RES2. -/
theorem execCtTicksToCycles_res {s t : State} (h : execCtTicksToCycles s = .next t) :
    t.res[1] = lowWord (s.argTicks % 3072) ∧ t.res[2] = lowWord (s.argTicks / 3072) ∧
      t.res[3] = highWord (s.argTicks / 3072) := by
  rw [execCtTicksToCycles_eq] at h
  cases h
  exact ⟨rfl, rfl, rfl⟩

theorem execCtCyclesToTicks_of_lt {s : State} (h : s.arg[1].toNat < 3072) :
    execCtCyclesToTicks s = .next { s with
      res := #v[lowWord (s.arg[0].toNat * 3072 + s.arg[1].toNat), highWord (s.arg[0].toNat * 3072 + s.arg[1].toNat),
        s.res[2], s.res[3]]
      err := .ok } :=
  (if_neg (Nat.not_le.mpr h)).trans (succeeds_of_res (s := s) rfl (res_set_two ..))

theorem execCtCyclesToTicks_of_ge {s : State} (h : 3072 ≤ s.arg[1].toNat) : execCtCyclesToTicks s = s.fails .eArg :=
  if_pos h

/-! ### CT_RECONSTRUCT (R235) -/

/-- The operands CT_RECONSTRUCT serves (R235). -/
def State.reconLegal (s : State) : Prop :=
  s.arg[0].toNat < 2 ^ 16 ∧ s.arg[2].toNat < 2 ^ 7 ∧ ctrValid s.arg[1] = true ∧
    sytValid (s.arg[0].setWidth 16) = true

theorem State.reconLegal_iff (s : State) :
    s.reconLegal ↔ s.arg[0].toNat < 2 ^ 16 ∧ s.arg[2].toNat < 2 ^ 7 ∧
      (s.arg[1].toNat / 2 ^ 12 % 2 ^ 13 < 8000 ∧ s.arg[1].toNat % 2 ^ 12 < 3072) ∧ s.arg[0].toNat % 2 ^ 12 < 3072 := by
  rw [State.reconLegal, ctrValid_iff, sytValid_iff, ctrCyc_toNat, ctrOff_toNat, sytOff_setWidth_toNat]

theorem execCtReconstruct_of_legal {s : State} (h : s.reconLegal) :
    execCtReconstruct s = .next { s with
      res := #v[(recon s.params.wrapMode (s.arg[0].setWidth 16) s.arg[1] (s.arg[2].setWidth 7)).1,
        if reconWrap (s.arg[0].setWidth 16) s.arg[1] then 1 else 0, s.res[2], s.res[3]]
      err := .ok } := by
  obtain ⟨hy, he, ht, hv⟩ := h
  rw [execCtReconstruct, State.argField_of_lt hy, State.argField_of_lt he]
  refine (if_pos ht).trans ((if_pos hv).trans ?_)
  exact succeeds_of_res (s := s) rfl (res_set_two ..)

theorem execCtReconstruct_of_not_legal {s : State} (h : ¬s.reconLegal) : execCtReconstruct s = s.fails .eArg := by
  unfold execCtReconstruct
  split
  · next y e hy he =>
    obtain ⟨hylt, rfl⟩ := State.argField_some hy
    obtain ⟨helt, rfl⟩ := State.argField_some he
    by_cases ht : ctrValid s.arg[1] = true
    · have hv : ¬sytValid (s.arg[0].setWidth 16) = true := fun hv => h ⟨hylt, helt, ht, hv⟩
      exact (if_pos ht).trans (if_neg hv)
    · exact if_neg ht
  · rfl

/-! ### CT_TO_TICKS and CT_FROM_TICKS (R239, R240) -/

theorem execCtToTicks_of_valid {s : State} (h : ctrValid s.arg[0] = true) :
    execCtToTicks s = .next { s.extendTicks s.arg[0] with
      res := #v[lowWord (tickOf s.arg[0] (s.extendTicks s.arg[0]).ctEpoch.toNat),
        highWord (tickOf s.arg[0] (s.extendTicks s.arg[0]).ctEpoch.toNat),
        if s.epochAdvances s.arg[0] then 1 else 0, s.res[3]]
      err := .ok } :=
  (if_pos h).trans (succeeds_of_res (s := s.extendTicks s.arg[0]) rfl (res_set_three ..))

theorem execCtToTicks_of_not_valid {s : State} (h : ctrValid s.arg[0] ≠ true) : execCtToTicks s = s.fails .eArg :=
  if_neg h

/-- A CT_TO_TICKS that ends without an error leaves the halves of the ticks in RES. -/
theorem execCtToTicks_ok {s t : State} (h : execCtToTicks s = .next t) (hok : t.err = .ok) :
    ctrValid s.arg[0] = true ∧ ∃ k : Word,
      t.res[0] = lowWord (tickOf s.arg[0] k.toNat) ∧ t.res[1] = highWord (tickOf s.arg[0] k.toNat) := by
  by_cases hv : ctrValid s.arg[0] = true
  · rw [execCtToTicks_of_valid hv] at h
    cases h
    exact ⟨hv, _, rfl, rfl⟩
  · rw [execCtToTicks_of_not_valid hv, fails_next] at h
    subst h
    cases hok

theorem execCtFromTicks_eq (s : State) :
    execCtFromTicks s = .next { s with
      res := #v[ctrOfTicks s.argTicks, s.res[1], s.res[2], s.res[3]], err := .ok } :=
  succeeds_of_res (s := s) rfl (res_set_zero ..)

/-! ### CT_SYT_CHECK (R242) -/

theorem execCtSytCheck_of_lt {s : State} (h : s.arg[0].toNat < 2 ^ 16) :
    execCtSytCheck s = .next { s.sytCheck (s.arg[0].setWidth 16) s.arg[1] with
      res := #v[s.sytResult (s.arg[0].setWidth 16) s.arg[1], s.res[1], s.res[2], s.res[3]], err := .ok } := by
  rw [execCtSytCheck, State.argField_of_lt h]
  refine succeeds_of_res rfl ?_
  rw [State.sytCheck_frame]
  exact res_set_zero ..

theorem execCtSytCheck_of_ge {s : State} (h : 2 ^ 16 ≤ s.arg[0].toNat) : execCtSytCheck s = s.fails .eArg := by
  rw [execCtSytCheck, State.argField_of_ge h]

end Sys2Proof.Machine
end

section
open Sys2Proof Sys2Proof.Machine

/-- Settles O29: the low word of the cycles is their residue modulo 2^32. -/
theorem ticksToCyclesDivides : Obligations.TicksToCyclesDivides := by
  refine ⟨rfl, ?_⟩
  intro s t c
  refine (execCtTicksToCycles_eq s).trans ?_
  rw [← lowWord_mod (s.argTicks / 3072)]
  rfl

/-- Settles O30, by the command's one check. -/
theorem cyclesToTicksMultiplies : Obligations.CyclesToTicksMultiplies := by
  refine ⟨rfl, ?_⟩
  intro s v
  split
  · next hge => exact execCtCyclesToTicks_of_ge hge
  · next hlt =>
    refine (execCtCyclesToTicks_of_lt (Nat.not_le.mp hlt)).trans ?_
    rw [← lowWord_mod]
    rfl

/-- Settles O31: past the checks every field the algorithm reads is its number, and the carry of each wrap mode is
read in numbers. -/
theorem reconstructFollowsTheAlgorithm : Obligations.ReconstructFollowsTheAlgorithm := by
  refine ⟨rfl, ?_⟩
  intro s y c e n nib base cyc sec
  have hlegal := s.reconLegal_iff
  split
  · next hbad => exact execCtReconstruct_of_not_legal (mt hlegal.mp (by omega))
  · next hgood =>
    have hs : s.reconLegal := hlegal.mpr (by omega)
    have ⟨hy, he, ht, _⟩ := hs
    have hcycle : (ctrCyc s.arg[1]).toNat = c := ctrCyc_toNat _
    have hnib : (sytNib (s.arg[0].setWidth 16)).toNat = nib := by
      rw [sytNib_toNat, BitVec.toNat_setWidth, Nat.mod_eq_of_lt hy]
    have hoff : (sytOff (s.arg[0].setWidth 16)).toNat = y % 2 ^ 12 := sytOff_setWidth_toNat _
    have hest : (s.arg[2].setWidth 7).toNat = e := by rw [BitVec.toNat_setWidth, Nat.mod_eq_of_lt he]
    have hwrap : reconWrap (s.arg[0].setWidth 16) s.arg[1] = decide (nib < n) := by rw [reconWrap, hnib, hcycle]
    have hbase : reconBase (s.arg[0].setWidth 16) s.arg[1] = base := by rw [reconBase_eq, hnib, hcycle]
    have hle : base ≤ 8014 := hbase ▸ reconBase_le ht _
    have hcarry : (carry s.params.wrapMode base (s.arg[2].setWidth 7) (decide (nib < n))).1.toNat = cyc ∧
        (carry s.params.wrapMode base (s.arg[2].setWidth 7) (decide (nib < n))).2.toNat = sec := by
      dsimp only [cyc, sec]
      rw [← hest]
      cases s.params.wrapMode with
      | normalised => exact carry_normalised_toNat hle _ _
      | literal => simpa only [decide_eq_true_eq] using carry_literal_toNat hle _ (decide (nib < n))
    refine (execCtReconstruct_of_legal hs).trans ?_
    rw [recon_fst, hbase, hwrap, makeCtr_eq_ofNat, hcarry.1, hcarry.2, hoff]
    simp only [decide_eq_true_eq]

/-- Settles O32: no carry changes the low 4 bits of the cycle, and NORMALISED's is the reduction modulo 8000. -/
theorem reconstructionKeepsTheSyt : Obligations.ReconstructionKeepsTheSyt := by
  intro y t e _ ht
  have hle := reconBase_le ht y
  obtain ⟨⟨d, hd, hbase⟩, hnib⟩ := reconBase_spec y t
  refine ⟨fun mode => ?_, d, hd, hbase, ?_⟩
  · obtain ⟨-, hcyc, hoff⟩ := recon_fields mode y t e
    have hlow : (ctrCyc (recon mode y t e).1).toNat % 16 = (sytNib y).toNat := by
      rw [hcyc, carry_cycle_mod hle, hnib]
    exact ⟨hoff, hlow, extractLsb'_eq_syt hoff hlow⟩
  · obtain ⟨-, hcyc, -⟩ := recon_fields .normalised y t e
    rw [hcyc, (carry_normalised_toNat hle e _).1, ← hbase]
    split <;> omega

/-- Settles O33: with a wrap the cycle before the carry is the target, and each mode's carry is read off. -/
theorem reconstructionWrapsOnce : Obligations.ReconstructionWrapsOnce := by
  intro y t e _ ht hlt target
  have hle := reconBase_le ht y
  have hwrap : reconWrap y t = true := reconWrap_eq_true.mpr hlt
  have htarget : reconBase y t = target := by
    rw [reconBase_eq, if_pos hlt]
    omega
  obtain ⟨hlsec, hlcyc, -⟩ := recon_fields .literal y t e
  obtain ⟨hnsec, hncyc, -⟩ := recon_fields .normalised y t e
  rw [htarget, hwrap] at hlsec hlcyc hnsec hncyc
  rw [htarget] at hle
  obtain ⟨hlc, hls⟩ := carry_literal_toNat hle e true
  obtain ⟨hnc, hns⟩ := carry_normalised_toNat hle e true
  refine ⟨?_, ?_, ?_, ?_⟩
  · rw [hlcyc, hlc]
  · rw [hlsec, hls, if_pos rfl]
  · rw [hncyc, hnc]
    split <;> omega
  · rw [hnsec, hns]

/-- Settles O34: each field of the CTR value and the epoch is its number. -/
theorem toTicksCountsEpochs : Obligations.ToTicksCountsEpochs := by
  refine ⟨rfl, ?_⟩
  intro s t sec cyc off advances epoch v
  have hsec : (ctrSec s.arg[0]).toNat = sec := ctrSec_toNat _
  have hcyc : (ctrCyc s.arg[0]).toNat = cyc := ctrCyc_toNat _
  have hoff : (ctrOff s.arg[0]).toNat = off := ctrOff_toNat _
  have hvalid := ctrValid_iff s.arg[0]
  rw [hcyc, hoff] at hvalid
  split
  · next hbad => exact execCtToTicks_of_not_valid (mt hvalid.mp (by omega))
  · next hgood =>
    have hlast : ctrSec s.arg[0] = BitVec.ofNat 7 sec := by rw [← hsec, BitVec.ofNat_toNat, BitVec.setWidth_eq]
    have hadv : s.epochAdvances s.arg[0] = advances := by rw [State.epochAdvances, hsec]
    have hnext : s.extendTicks s.arg[0] =
        { s with ctEpoch := epoch, ctLastSec := BitVec.ofNat 7 sec, ctHave := true } := by
      rw [State.extendTicks, hadv, hlast]
    have hticks : tickOf s.arg[0] epoch.toNat = v := by rw [tickOf_eq, hsec, hcyc, hoff]
    refine (execCtToTicks_of_valid (hvalid.mpr (by omega))).trans ?_
    rw [hnext, hticks, hadv, ← lowWord_mod]
    rfl

/-- Settles O35: the packed fields are the quotients and remainders of the count. -/
theorem fromTicksSplitsTheCount : Obligations.FromTicksSplitsTheCount := by
  refine ⟨rfl, ?_⟩
  intro s v
  refine (execCtFromTicks_eq s).trans ?_
  rw [ctrOfTicks_eq]
  rfl

/-- Settles O36: both commands of a pair name one count, and what the first makes of it the second takes back. -/
theorem tickConversionsInvert : Obligations.TickConversionsInvert := by
  refine ⟨fun s t u v ht hok hlow hhigh hv => ?_, fun s t u v ht hhigh hcycles hoff hv => ?_⟩
  · obtain ⟨hvalid, k, h0, h1⟩ := execCtToTicks_ok ht hok
    have hticks : u.argTicks = tickOf s.arg[0] k.toNat :=
      State.argTicks_of_halves (tickOf_lt hvalid k) (hlow.trans h0) (hhigh.trans h1)
    cases (execCtFromTicks_eq u).symm.trans hv
    exact (congrArg ctrOfTicks hticks).trans (ctrOfTicks_tickOf hvalid k.toNat)
  · obtain ⟨h1, h2, h3⟩ := execCtTicksToCycles_res ht
    have hlt := s.argTicks_lt
    have hc : u.arg[0].toNat = s.argTicks / 3072 := by
      rw [hcycles, h2]
      exact lowWord_toNat_of_highWord (by omega) (h3.symm.trans hhigh)
    have ho : u.arg[1].toNat = s.argTicks % 3072 := by
      rw [hoff, h1, lowWord_toNat]
      omega
    have hcount : u.arg[0].toNat * 3072 + u.arg[1].toNat = s.argTicks := by
      rw [hc, ho]
      exact Nat.div_add_mod' ..
    have hv := (execCtCyclesToTicks_of_lt (by rw [ho]; omega)).symm.trans hv
    rw [hcount, s.halves_argTicks.1, s.halves_argTicks.2] at hv
    cases hv
    exact ⟨rfl, rfl, rfl⟩

/-- Settles O37: mismatch and backward step are the numbers' comparisons. -/
theorem sytCheckReportsMismatchAndBackwardStep : Obligations.SytCheckReportsMismatchAndBackwardStep := by
  refine ⟨rfl, ?_⟩
  intro s ts ticks mism back
  split
  · next hge => exact execCtSytCheck_of_ge hge
  · next hge =>
    have hlt := Nat.not_le.mp hge
    have hmism : sytMismatch (s.arg[0].setWidth 16) ts = mism := sytMismatch_setWidth hlt ts
    have hback : s.sytBackward ts = back := by rw [State.sytBackward_eq, tick128_cast, tick128_cast]
    refine (execCtSytCheck_of_lt hlt).trans ?_
    rw [State.sytCheck_frame, State.sytResult_eq, hmism, hback, ite_add_sytmon]

end

section
/-! PROOFS. The packets in the ring (R50, R134) after each of its moves. For O60 and O17. -/

namespace Sys2Proof.Machine

/-! ### Slots -/

/-- The place one after `i` is the slot one after `i`'s (R123, R124). -/
theorem slot_nextIndex_add {cap i : BitVec 14} (hi : i.toNat < 2 * cap.toNat) (hc : cap.toNat ≤ 8192) (j : Nat) :
    slot cap ((nextIndex cap i).toNat + j) = slot cap (i.toNat + (j + 1)) := by
  rw [nextIndex_toNat hc hi]
  split
  · next hturn =>
    have hsum : i.toNat + (j + 1) = 0 + j + cap.toNat * 2 := by omega
    rw [hsum, slot, slot, Nat.add_mul_mod_self_left]
  · rw [Nat.add_assoc, Nat.add_comm 1 j]

/-- A byte of slot `k` lies outside a packet of up to `M` bytes in another slot (R66). -/
theorem slot_bytes_disjoint {k l M n j : Nat} (hne : k ≠ l) (hj : j < M) (hn : n ≤ M) :
    k * M + j < l * M ∨ l * M + n ≤ k * M + j := by
  rcases Nat.lt_or_gt_of_ne hne with hlt | hlt
  · have hstep : (k + 1) * M ≤ l * M := Nat.mul_le_mul_right M hlt
    rw [Nat.add_one_mul] at hstep
    omega
  · have hstep : (l + 1) * M ≤ k * M := Nat.mul_le_mul_right M hlt
    rw [Nat.add_one_mul] at hstep
    omega

/-- Every slot from `R` up to `W` holds a packet: these are the last of the slots from `R@P` up to `W` (R124, R125). -/
theorem State.ringSafe.slotHeld_of_lt {s : State} (hs : s.ringSafe) {j : Nat} (hj : j < fill s.cap s.wIdx s.rIdx) :
    s.slotHeld (slot s.cap (s.rIdx.toNat + j)) := by
  cases hready : s.lc.ringReady with
  | false =>
    obtain ⟨-, hw, hr, -, -⟩ := hs.cleared hready
    rw [hw, hr, fill_self] at hj
    exact absurd hj (Nat.not_lt_zero j)
  | true =>
    have hring := hs.readyRing hready
    obtain ⟨-, -, hheld⟩ := hs
    have hold := hheld (fill s.cap s.rIdx s.rAtP + j) (by
      rw [← State.producerFill, hring.producerFill_eq]
      omega)
    rwa [slot_fill_add hring.rIdx hring.rAtP] at hold

/-- A packet stays as it is while its META entry and the bytes of its slot do: no free value is read (log 5). -/
theorem State.slotHeld.packetAt_eq {s t : State} {k : Nat} (h : s.slotHeld k) (hmax : t.maxPkt = s.maxPkt)
    (hmeta : lookupAt t.slotMeta k = lookupAt s.slotMeta k)
    (hring : ∀ j, j < s.maxPkt.toNat →
      lookupAt t.ring (k * s.maxPkt.toNat + j) = lookupAt s.ring (k * s.maxPkt.toNat + j)) :
    t.packetAt k = s.packetAt k := by
  obtain ⟨e, he, -, hle, hbytes⟩ := h
  have hs : s.metaAt k = e := by rw [State.metaAt, he, Option.getD_some]
  have ht : t.metaAt k = e := by rw [State.metaAt, hmeta, he, Option.getD_some]
  have hsame : t.ringBytes (k * s.maxPkt.toNat) e.len.toNat = s.ringBytes (k * s.maxPkt.toNat) e.len.toNat := by
    refine List.map_congr_left fun j hj => ?_
    have hj := List.mem_range.mp hj
    obtain ⟨b, hb⟩ := Option.isSome_iff_exists.mp (hbytes j hj)
    rw [State.ringByte, State.ringByte, hring j (hj.trans_le hle), hb, Option.getD_some, Option.getD_some]
  rw [State.packetAt, State.packetAt, hs, ht, hmax, hsame]

/-! ### The packets after each move -/

theorem packets_of_indices_eq {s : State} (h : s.wIdx = s.rIdx) : s.packets = [] := by
  rw [State.packets, h, fill_self]
  rfl

/-- A ring that is not ready holds no packet (R331, R337). -/
theorem State.ringSafe.packets_eq_nil {s : State} (hs : s.ringSafe) (hready : s.lc.ringReady = false) :
    s.packets = [] := by
  obtain ⟨-, hw, hr, -, -⟩ := hs.cleared hready
  exact packets_of_indices_eq (hw.trans hr.symm)

/-- The packets are the ring's alone. -/
theorem sameRing.packets {s t : State} (h : sameRing s t) (hs : s.ringSafe) : t.packets = s.packets := by
  simp only [sameRing, State.ringView, RingView.mk.injEq] at h
  obtain ⟨-, -, -, hcap, hmax, hw, hr, -, -, hring, hmeta⟩ := h
  rw [State.packets, State.packets, hcap, hw, hr]
  refine List.map_congr_left fun j hj => ?_
  exact (hs.slotHeld_of_lt (List.mem_range.mp hj)).packetAt_eq hmax (by rw [hmeta]) fun i _ => by rw [hring]

/-- The get takes the packet in the slot of `R` and leaves the others in their order (R124). -/
theorem packets_eq_cons_ringDrop {s : State} (hs : s.ringSafe) (hready : s.lc.ringReady = true)
    (hpacket : s.consumerFill ≠ 0) :
    s.packets = s.packetAt (slot s.cap s.rIdx.toNat) :: s.ringDrop.packets := by
  have hring := hs.readyRing hready
  have hne : fill s.cap s.wIdx s.rIdx ≠ 0 := by
    rw [hring.fill_w_r]
    exact fun hsum => hpacket (Nat.eq_zero_of_add_eq_zero_right hsum)
  rw [State.packets, ← fill_nextIndex_right hring.wIdx hring.rIdx hring.capBound hne, List.range_succ_eq_map,
    List.map_cons, List.map_map]
  refine congrArg (List.cons _) (List.map_congr_left fun j _ => ?_)
  exact congrArg s.packetAt (slot_nextIndex_add hring.rIdx hring.capBound j).symm

/-- The add keeps the packet of every slot but `W`'s (R123). -/
theorem ringAdd_packetAt_of_ne {s : State} {b : List Byte} (tag : BitVec 2) (sy : BitVec 4) (cycle : BitVec 13)
    (ctr : Word) {k : Nat} (hmax : b.length ≤ s.maxPkt.toNat) (hheld : s.slotHeld k)
    (hne : k ≠ slot s.cap s.wIdx.toNat) : (s.ringAdd b tag sy cycle ctr).packetAt k = s.packetAt k :=
  hheld.packetAt_eq rfl ((lookupAt_insertAt ..).trans (if_neg hne)) fun _ hj =>
    lookupAt_writeBytes_outside _ _ _ _ (slot_bytes_disjoint hne hj hmax)

/-- The add puts its packet into the slot of `W` (R123). -/
theorem ringAdd_packetAt_slot {s : State} {b : List Byte} (tag : BitVec 2) (sy : BitVec 4) (cycle : BitVec 13)
    (ctr : Word) (hmax : b.length ≤ s.maxPkt.toNat) :
    (s.ringAdd b tag sy cycle ctr).packetAt (slot s.cap s.wIdx.toNat) = { bytes := b, tag, sy, cycle, ctr } := by
  have hmeta : (s.ringAdd b tag sy cycle ctr).metaAt (slot s.cap s.wIdx.toNat) =
      { len := BitVec.ofNat 13 b.length, tag, sy, cycle, ctr } := by
    rw [State.metaAt, State.ringAdd_slotMeta, lookupAt_insertAt, if_pos rfl, Option.getD_some]
  have hlen : (BitVec.ofNat 13 b.length).toNat = b.length := Nat.mod_eq_of_lt (hmax.trans_lt s.maxPkt.isLt)
  have hbytes : (s.ringAdd b tag sy cycle ctr).ringBytes (slot s.cap s.wIdx.toNat * s.maxPkt.toNat) b.length = b := by
    refine List.ext_getElem (State.ringBytes_length ..) fun j _ hj => ?_
    simp only [State.ringBytes, List.getElem_map, List.getElem_range, State.ringByte, State.ringAdd_ring,
      lookupAt_writeBytes_inside _ _ b j hj, Option.getD_some]
  rw [State.packetAt, hmeta, State.ringAdd_maxPkt, hlen, hbytes]

/-- The add appends its packet (R123). -/
theorem ringAdd_packets {s : State} (hs : s.ringSafe) {b : List Byte} (tag : BitVec 2) (sy : BitVec 4)
    (cycle : BitVec 13) (ctr : Word) (hready : s.lc.ringReady = true) (hroom : s.producerFill ≠ s.cap.toNat)
    (hmax : b.length ≤ s.maxPkt.toNat) :
    (s.ringAdd b tag sy cycle ctr).packets = s.packets ++ [{ bytes := b, tag, sy, cycle, ctr }] := by
  have hring := hs.readyRing hready
  have hlt : fill s.cap s.wIdx s.rIdx < s.cap.toNat := by
    have := hring.producerFill_le
    have := hring.producerFill_eq
    omega
  have hfill : fill s.cap (nextIndex s.cap s.wIdx) s.rIdx = fill s.cap s.wIdx s.rIdx + 1 :=
    fill_nextIndex_left hring.wIdx hring.rIdx hring.capBound (by omega)
  have hslot : slot s.cap (s.rIdx.toNat + fill s.cap s.wIdx s.rIdx) = slot s.cap s.wIdx.toNat :=
    slot_fill_add hring.wIdx hring.rIdx 0
  rw [State.packets, State.ringAdd_cap, State.ringAdd_wIdx, State.ringAdd_rIdx, hfill, List.range_succ, List.map_append,
    List.map_singleton, hslot, ringAdd_packetAt_slot tag sy cycle ctr hmax]
  refine congrArg (· ++ _) (List.map_congr_left fun j hj => ?_)
  have hj := List.mem_range.mp hj
  exact ringAdd_packetAt_of_ne tag sy cycle ctr hmax (hs.slotHeld_of_lt hj)
    (slot_ne_of_lt_fill hring.wIdx hring.rIdx hj hlt)

/-- What any move of the ring makes of its packets. OPEN and INIT find the ring empty and leave it so. -/
theorem RingMove.packets_cases {s t : State} (h : RingMove s t) (hs : s.ringSafe) :
    t.packets = s.packets ∨ (∃ pkt, t.packets = s.packets ++ [pkt]) ∨ (∃ pkt, s.packets = pkt :: t.packets) ∨
      (t.packets = [] ∧ t.lc.ringReady = false) := by
  have hsafe := h.keeps_ringSafe hs
  cases h with
  | keeps h => exact .inl (h.packets hs)
  | adds b tag sy cycle ctr hready hroom hmin hmax h =>
    have hsame := h.packets (ringAdd_ringSafe hs tag sy cycle ctr hready hroom hmin hmax)
    exact .inr (.inl ⟨_, hsame.trans (ringAdd_packets hs tag sy cycle ctr hready hroom hmax)⟩)
  | drops hready hpacket h =>
    have hsame := h.packets (ringDrop_ringSafe hs hready hpacket)
    exact .inr (.inr (.inl ⟨_, hsame ▸ packets_eq_cons_ringDrop hs hready hpacket⟩))
  | syncs x hx h =>
    refine .inl ((h.packets (sync_ringSafe hs hx)).trans ?_)
    rcases hx with rfl | rfl <;> rfl
  | opens hready h =>
    have hclosed : t.lc.ringReady = false := (congrArg RingView.ready h).trans hready
    exact .inl ((hsafe.packets_eq_nil hclosed).trans (hs.packets_eq_nil hready).symm)
  | inits hdr cap maxpkt hlc hargs hram h =>
    have hready : s.lc.ringReady = false := Lifecycle.ringReady_false.mpr (.inr hlc)
    refine .inl ((h.packets (initRing_ringSafe hs hargs hram)).trans ?_)
    exact (packets_of_indices_eq rfl).trans (hs.packets_eq_nil hready).symm
  | tearsDown h | resets h =>
    have hclosed : t.lc.ringReady = false := congrArg RingView.ready h
    exact .inr (.inr (.inr ⟨hsafe.packets_eq_nil hclosed, hclosed⟩))

/-- One step, said once for the packets. -/
theorem step_packets_cases {s t : State} (hs : s.ringSafe) (h : step s = .next t) :
    t.packets = s.packets ∨ (∃ pkt, t.packets = s.packets ++ [pkt]) ∨ (∃ pkt, s.packets = pkt :: t.packets) ∨
      (t.packets = [] ∧ t.lc.ringReady = false) := by
  obtain ⟨u, hsame, hmove⟩ := step_ringMove h
  rw [← hsame.packets hs]
  exact hmove.packets_cases (hsame.ringSafe hs)

end Sys2Proof.Machine
end

section
/-! PROOFS. The ring commands as whole next states (R271 to R274). For O15, O16, O17 and O60. -/

namespace Sys2Proof.Machine

/-- One check of a statement that goes by a command's checks in order: in each branch the result `r` is the branch's. -/
theorem ite_of_eq_ite {α : Type} {c P Q : Prop} [Decidable c] {r a b : α} (hr : r = if c then a else b)
    (hpos : r = a → P) (hneg : r = b → Q) : if c then P else Q := by
  by_cases hc : c
  · rw [if_pos hc] at hr ⊢
    exact hpos hr
  · rw [if_neg hc] at hr ⊢
    exact hneg hr

/-! ### The first checks, and the metadata word -/

/-- The check of the ring and of the stream's direction `d` with which RB_ADD and RB_GET begin (R271, R272). -/
theorem ringRefused_iff (s : State) (d : Direction) :
    (!s.lc.ringReady || decide (s.dir ≠ d)) = true ↔ (s.lc = .closed ∨ s.lc = .opened) ∨ s.dir ≠ d := by
  rw [Bool.or_eq_true, Bool.not_eq_true', Lifecycle.ringReady_false, decide_eq_true_eq]

theorem ringReady_of_not {l : Lifecycle} (h : ¬(l = .closed ∨ l = .opened)) : l.ringReady = true := by
  rwa [← Lifecycle.ringReady_false, Bool.not_eq_false] at h

/-- An enabled transaction finds the ring ready (R270, R315). -/
theorem State.ringReady_of_putEnabled {s : State} (h : s.putEnabled = true) : s.lc.ringReady = true := by
  simp only [State.putEnabled, Bool.and_eq_true, decide_eq_true_eq] at h
  obtain ⟨⟨hlc, -⟩, -⟩ := h
  rw [hlc]
  rfl

theorem State.ringReady_of_getEnabled {s : State} (h : s.getEnabled = true) : s.lc.ringReady = true := by
  simp only [State.getEnabled, Bool.and_eq_true, decide_eq_true_eq] at h
  obtain ⟨⟨hlc, -⟩, -⟩ := h
  rw [hlc]
  rfl

/-- The metadata word as a number (R179). -/
theorem metaWord_toNat (tag : BitVec 2) (sy : BitVec 4) (cycle : BitVec 13) :
    (metaWord tag sy cycle).toNat = tag.toNat + 2 ^ 4 * sy.toNat + 2 ^ 16 * cycle.toNat := by
  simp only [metaWord, toNat_append_add, BitVec.toNat_ofNat]
  omega

/-! ### RB_ADD and ISO_PUT (R271, R310) -/

/-- RB_ADD by its checks on the number in ARG0 (R271). -/
theorem execRbAdd_eq (s : State) :
    execRbAdd s =
      if (s.lc = .closed ∨ s.lc = .opened) ∨ s.dir ≠ .tx then s.fails .eState
      else if 2 ^ 13 ≤ s.arg[0].toNat ∨ s.arg[0].toNat < s.hdrSize.toNat then s.fails .eArg
      else if s.maxPkt.toNat < s.arg[0].toNat then s.fails .eTooLong
      else if s.producerFill = s.cap.toNat then (s.count .overflow).fails .eOverflow
      else (s.ringAdd (s.txbBytes 0 s.arg[0].toNat) 0 0 0 0).succeeds := by
  rw [execRbAdd]
  refine if_congr (ringRefused_iff s .tx) rfl ?_
  by_cases hbig : 2 ^ 13 ≤ s.arg[0].toNat
  · rw [State.argField_of_ge hbig, if_pos (.inl hbig)]
  · have hlt : s.arg[0].toNat < 2 ^ 13 := Nat.not_le.mp hbig
    have hlen : (s.arg[0].setWidth 13).toNat = s.arg[0].toNat := by rw [BitVec.toNat_setWidth, Nat.mod_eq_of_lt hlt]
    rw [State.argField_of_lt hlt]
    simp only [hbig, false_or, Fin.getElem_fin, Fin.val_zero, hlen]

/-- An RB_ADD that ends without an error has added the packet `TXB[0 .. ARG0)` (R271). -/
theorem execRbAdd_ok {s t : State} (h : execRbAdd s = .next t) (hok : t.err = .ok) :
    s.lc.ringReady = true ∧ s.producerFill ≠ s.cap.toNat ∧ s.arg[0].toNat ≤ s.maxPkt.toNat ∧
      t = (s.ringAdd (s.txbBytes 0 s.arg[0].toNat) 0 0 0 0).raise .ok := by
  rw [execRbAdd_eq] at h
  split_ifs at h with hstate harg hlong hfull
  case neg =>
    exact ⟨ringReady_of_not fun hlc => hstate (.inl hlc), hfull, Nat.not_lt.mp hlong, (succeeds_next.mp h).symm⟩
  all_goals
    rw [← fails_next.mp h] at hok
    cases hok

/-- RING and META after the add, byte by byte (R123). -/
theorem ringAdd_ringAdded (s : State) (b : List Byte) (tag : BitVec 2) (sy : BitVec 4) (cycle : BitVec 13)
    (ctr : Word) :
    ringAdded s b { len := BitVec.ofNat 13 b.length, tag, sy, cycle, ctr } (s.ringAdd b tag sy cycle ctr).ring
      (s.ringAdd b tag sy cycle ctr).slotMeta :=
  ⟨lookupAt_writeBytes _ _ b, fun j => lookupAt_insertAt _ _ j _⟩

/-- The bytes RB_ADD takes from TXB (R271). -/
theorem State.txbBytes_zero (s : State) (n : Nat) : s.txbBytes 0 n = (List.range n).map s.txbByte :=
  List.map_congr_left fun j _ => congrArg s.txbByte (Nat.zero_add j)

/-- A received packet is appended, or refused with the ring as it was (R310). -/
theorem State.receive_packets {s : State} (hs : s.ringSafe) (hready : s.lc.ringReady = true) (data : List Byte)
    (channel : BitVec 6) (tag : BitVec 2) (sy : BitVec 4) (cycle : BitVec 13) (ctr : Word) :
    (s.receive data channel tag sy cycle ctr).packets = s.packets ∨
      (s.receive data channel tag sy cycle ctr).packets = s.packets ++ [{ bytes := data, tag, sy, cycle, ctr }] := by
  rcases s.receive_cases data channel tag sy cycle ctr with h | ⟨-, h⟩ | ⟨-, -, hmax, hroom, h⟩ <;> rw [h]
  · exact .inl rfl
  · exact .inl rfl
  · exact .inr (ringAdd_packets hs tag sy cycle ctr hready hroom hmax)

/-! ### RB_GET and ISO_GET (R272, R311) -/

/-- RB_GET by its checks on the number in ARG0 (R272). -/
theorem execRbGet_eq (s : State) :
    execRbGet s =
      if (s.lc = .closed ∨ s.lc = .opened) ∨ s.dir ≠ .rx then s.fails .eState
      else if 2 ^ 16 ≤ s.arg[0].toNat then s.fails .eArg
      else if s.consumerFill = 0 then (s.count .underflow).fails .eUnderflow
      else if s.arg[0].toNat < s.headMeta.len.toNat then s.fails .eTooLong
      else .next s.gotPacket := by
  rw [execRbGet]
  refine if_congr (ringRefused_iff s .rx) rfl ?_
  by_cases hbig : 2 ^ 16 ≤ s.arg[0].toNat
  · rw [State.argField_of_ge hbig, if_pos hbig]
  · have hlt : s.arg[0].toNat < 2 ^ 16 := Nat.not_le.mp hbig
    have hmax : (s.arg[0].setWidth 16).toNat = s.arg[0].toNat := by rw [BitVec.toNat_setWidth, Nat.mod_eq_of_lt hlt]
    rw [State.argField_of_lt hlt, if_neg hbig]
    simp only [Fin.getElem_fin, Fin.val_zero, hmax]
    rfl

/-- The bytes of the packet in the slot of `R` (R124). -/
theorem State.headBytes_getElem? (s : State) {a : Nat} (ha : a < s.headMeta.len.toNat) :
    s.headBytes[a]? = some (s.ringByte (slot s.cap s.rIdx.toNat * s.maxPkt.toNat + a)) := by
  rw [State.headBytes, State.ringBytes, List.getElem?_map, List.getElem?_range ha, Option.map_some]

/-- The packet RB_GET has copied to TXB, byte by byte (R272). -/
theorem State.gotPacket_txb (s : State) (a : Nat) :
    lookupAt s.gotPacket.txb a =
      if a < s.headMeta.len.toNat then some (s.ringByte (slot s.cap s.rIdx.toNat * s.maxPkt.toNat + a))
      else lookupAt s.txb a := by
  have h : lookupAt s.gotPacket.txb a = _ := lookupAt_writeBytes s.txb 0 s.headBytes a
  simp only [State.headBytes_length, Nat.zero_add, Nat.sub_zero, Nat.zero_le, true_and] at h
  exact h.trans (ite_congr rfl s.headBytes_getElem? fun _ => rfl)

/-- An RB_GET that ends without an error has taken the packet at the head of the ring (R272). -/
theorem execRbGet_ok {s t : State} (h : execRbGet s = .next t) (hok : t.err = .ok) :
    s.lc.ringReady = true ∧ s.consumerFill ≠ 0 ∧ t = s.gotPacket := by
  rcases execRbGet_cases h with ⟨e, he, rfl⟩ | ⟨-, rfl⟩ | ⟨hready, -, hpacket, ht⟩
  · exact absurd hok he
  · cases hok
  · exact ⟨hready, hpacket, ht⟩

/-- An enabled ISO_GET that has a next state answers what `transmit` gives (R311). -/
theorem execIsoGet_of_enabled {s t : State} {cycle : BitVec 13} {dropped : Word} {maxLength : BitVec 16}
    (hen : s.getEnabled = true) (h : execIsoGet cycle dropped maxLength s = .next t) :
    t = ((s.addTo .llDropped dropped).transmit maxLength.toNat).1.answer
      (.isoGet ((s.addTo .llDropped dropped).transmit maxLength.toNat).2
        (BitVec.ofNat 16 ((s.addTo .llDropped dropped).transmit maxLength.toNat).2.length) (txIsoTag s.txIso)
        (txIsoSy s.txIso) .ok) := by
  rw [execIsoGet, if_pos hen] at h
  split at h
  · cases h
  · exact (Host.Outcome.next.inj h).symm

/-- A transmission takes the oldest packet, unless the consumer sees none (R311). -/
theorem State.transmit_packets {s : State} (hs : s.ringSafe) (hready : s.lc.ringReady = true) (maxLength : Nat) :
    (s.consumerFill = 0 ∧ (s.transmit maxLength).1.packets = s.packets) ∨
      (s.consumerFill ≠ 0 ∧
        s.packets = s.packetAt (slot s.cap s.rIdx.toNat) :: (s.transmit maxLength).1.packets) := by
  rcases s.transmit_cases maxLength with ⟨hempty, h⟩ | ⟨hpacket, h⟩ | ⟨hpacket, -, -, h⟩ <;> rw [h]
  · exact .inl ⟨hempty, rfl⟩
  · exact .inr ⟨hpacket, packets_eq_cons_ringDrop hs hready hpacket⟩
  · exact .inr ⟨hpacket, packets_eq_cons_ringDrop hs hready hpacket⟩

/-- A transmission sends the bytes of the packet at the head of the ring when they fit (R311). -/
theorem State.transmit_bytes {s : State} {maxLength : Nat} (hpacket : s.consumerFill ≠ 0)
    (hmin : 8 ≤ s.headMeta.len.toNat) (hmax : s.headMeta.len.toNat ≤ maxLength) :
    (s.transmit maxLength).2 = s.headBytes := by
  rw [State.transmit, if_neg hpacket, if_neg (by omega)]

end Sys2Proof.Machine
end

section
/-! PROOFS. The fill queries, and the packets that the APP side sees (R270, R273, R274). For O17. -/

namespace Sys2Proof.Machine

/-- The length of the `j`-th packet in the APP side's view (R274). -/
def State.appLen (s : State) (j : Nat) : Nat := (s.metaAt (slot s.cap (s.appR.toNat + j))).len.toNat

/-- The payload bytes in the APP side's view, as a natural number (R274). -/
def State.payloadBytes (s : State) : Nat := ((List.range s.appFill).map fun j => s.appLen j - s.hdrSize.toNat).sum

/-- The APP side's view by the direction of the stream (R59, R270). -/
theorem State.appFill_eq (s : State) :
    s.appFill = if s.dir = .rx then fill s.cap s.wAtC s.rIdx else fill s.cap s.wIdx s.rAtP := by
  rw [State.appFill, State.appW_eq, State.appR_eq]
  split <;> rfl

theorem execRbFillPackets_of_ready {s : State} (h : s.lc.ringReady = true) :
    execRbFillPackets s = .next
      { s with res := #v[BitVec.ofNat 32 s.appFill, s.res[1], s.res[2], s.res[3]], err := .ok } :=
  (if_pos h).trans (succeeds_of_res (s := s) rfl (res_set_zero ..))

theorem execRbFillPayload_of_ready {s : State} (h : s.lc.ringReady = true) :
    execRbFillPayload s = .next
      { s with res := #v[BitVec.ofInt 32 s.payloadSum, s.res[1], s.res[2], s.res[3]], err := .ok } :=
  (if_pos h).trans (succeeds_of_res (s := s) rfl (res_set_zero ..))

/-- The APP side sees at most CAP packets, each in a slot that holds one (R125). -/
theorem State.ringSafe.appView {s : State} (hs : s.ringSafe) (hready : s.lc.ringReady = true) :
    s.appFill ≤ s.cap.toNat ∧ ∀ j, j < s.appFill → s.slotHeld (slot s.cap (s.appR.toNat + j)) := by
  have hring := hs.readyRing hready
  rw [State.appFill_eq, State.appR_eq]
  split
  · have := hring.ordered
    have := hring.fill_w_r
    exact ⟨by omega, fun j hj => hs.slotHeld_of_lt (by omega)⟩
  · obtain ⟨-, -, hheld⟩ := hs
    exact ⟨hring.producerFill_le, hheld⟩

/-- A packet that an add has written is of HDRSIZE to MAXPKT bytes (R123). -/
theorem State.slotHeld.len_bounds {s : State} {k : Nat} (h : s.slotHeld k) :
    s.hdrSize.toNat ≤ (s.metaAt k).len.toNat ∧ (s.metaAt k).len.toNat ≤ s.maxPkt.toNat := by
  obtain ⟨e, he, hmin, hmax, -⟩ := h
  rw [State.metaAt, he, Option.getD_some]
  exact ⟨hmin, hmax⟩

section
variable {s : State} (hs : s.ringSafe) (hready : s.lc.ringReady = true)
include hs hready

theorem State.ringSafe.appLen_bounds {j : Nat} (hj : j < s.appFill) :
    s.hdrSize.toNat ≤ s.appLen j ∧ s.appLen j ≤ s.maxPkt.toNat := by
  obtain ⟨-, hheld⟩ := hs.appView hready
  exact (hheld j hj).len_bounds

/-- No term of R274's sum is negative. -/
theorem State.ringSafe.payloadSum_eq : s.payloadSum = s.payloadBytes := by
  rw [State.payloadSum, State.payloadBytes, Nat.cast_list_sum, List.map_map]
  refine congrArg List.sum (List.map_congr_left fun j hj => ?_)
  obtain ⟨hmin, -⟩ := hs.appLen_bounds hready (List.mem_range.mp hj)
  exact (Int.ofNat_sub hmin).symm

/-- Each of at most CAP packets has at most MAXPKT bytes of payload. -/
theorem State.ringSafe.payloadBytes_le : s.payloadBytes ≤ s.cap.toNat * s.maxPkt.toNat := by
  obtain ⟨hfill, -⟩ := hs.appView hready
  have hterm : ∀ x ∈ (List.range s.appFill).map fun j => s.appLen j - s.hdrSize.toNat, x ≤ s.maxPkt.toNat := by
    intro x hx
    obtain ⟨j, hj, rfl⟩ := List.mem_map.mp hx
    obtain ⟨-, hmax⟩ := hs.appLen_bounds hready (List.mem_range.mp hj)
    exact (Nat.sub_le _ _).trans hmax
  have hsum := List.sum_le_card_nsmul _ _ hterm
  rw [List.length_map, List.length_range, smul_eq_mul] at hsum
  exact hsum.trans (Nat.mul_le_mul_right _ hfill)

/-- INIT has found room for CAP packets of MAXPKT bytes, in a RAM of at most 2^24 bytes (R7, R332). -/
theorem State.ringSafe.ram_bound :
    s.cap.toNat * s.maxPkt.toNat ≤ s.params.ramBytes ∧ s.params.ramBytes ≤ 2 ^ 24 := by
  obtain ⟨⟨⟨⟨-, hram⟩, -⟩, hconf⟩, -, -⟩ := hs
  rw [if_pos hready] at hconf
  obtain ⟨-, -, -, -, -, hfits⟩ := hconf
  exact ⟨hfits, hram⟩

/-- RES0 after RB_FILL_PAYLOAD is the number of payload bytes (R274). -/
theorem State.ringSafe.payloadSum_toNat : (BitVec.ofInt 32 s.payloadSum).toNat = s.payloadBytes := by
  have hle := hs.payloadBytes_le hready
  obtain ⟨hfits, hram⟩ := hs.ram_bound hready
  rw [hs.payloadSum_eq hready, BitVec.ofInt_natCast, BitVec.toNat_ofNat, Nat.mod_eq_of_lt (by omega)]

end

end Sys2Proof.Machine
end

section
open Sys2Proof Sys2Proof.Machine

/-- Settles O60: each clause from what one add, get, transmission or move of the ring makes of the packets. -/
theorem theRingIsAQueue : Obligations.TheRingIsAQueue := by
  refine ⟨?add, ?put, ?get, ?send, ?step⟩
  case add =>
    intro s t hs h hok
    obtain ⟨hready, hroom, hmax, rfl⟩ := execRbAdd_ok h hok
    rw [← s.txbBytes_zero]
    exact ringAdd_packets hs 0 0 0 0 hready hroom ((s.txbBytes_length 0 _).trans_le hmax)
  case put =>
    intro s t data channel tag sy cycle dropped ctr hs h
    rcases execIsoPut_cases h with rfl | ⟨hen, rfl⟩
    · exact .inl rfl
    · have hcounted : sameRing s (s.addTo .llDropped dropped) := rfl
      have hready := State.ringReady_of_putEnabled hen
      exact State.receive_packets (hcounted.ringSafe hs) hready data channel tag sy cycle ctr
  case get =>
    intro s t hs h hok
    obtain ⟨hready, hpacket, rfl⟩ := execRbGet_ok h hok
    have hlen : s.headBytes.length = s.headMeta.len.toNat := s.headBytes_length
    refine ⟨s.packetAt (slot s.cap s.rIdx.toNat), ?_, hlen.symm, fun j hj => ?_, rfl, rfl⟩
    · rw [s.gotPacket_sameRing.packets (ringDrop_ringSafe hs hready hpacket)]
      exact packets_eq_cons_ringDrop hs hready hpacket
    · have hbyte : s.headBytes[j]? = _ := s.headBytes_getElem? (hj.trans_eq hlen)
      exact ((s.gotPacket_txb j).trans (if_pos (hj.trans_eq hlen))).trans hbyte.symm
  case send =>
    intro s t cycle dropped maxLength hs hen h
    obtain rfl := execIsoGet_of_enabled (cycle := cycle) hen h
    have hcounted : sameRing s (s.addTo .llDropped dropped) := rfl
    rcases State.transmit_packets (hcounted.ringSafe hs) (State.ringReady_of_getEnabled hen) maxLength.toNat with
      hempty | ⟨hpacket, htaken⟩
    · exact .inl hempty
    · refine .inr ⟨_, htaken, fun hmin hmax => ?_⟩
      have hlen := (s.addTo .llDropped dropped).headBytes_length
      have hbytes := State.transmit_bytes hpacket (hmin.trans_eq hlen) (hlen.symm.trans_le hmax)
      rw [hbytes]
      rfl
  case step =>
    intro s t hs h
    rcases step_packets_cases hs h with hsame | hadds | htakes | ⟨hempty, hready⟩
    · exact .inl hsame
    · exact .inr (.inl hadds)
    · exact .inr (.inr (.inl htakes))
    · refine .inr (.inr (.inr ⟨hempty, ?_⟩))
      rcases Lifecycle.ringReady_false.mp hready with hlc | hlc
      · exact .inl hlc
      · exact .inr (.inl hlc)

/-- Settles O17: the view holds at most CAP packets of HDRSIZE to MAXPKT bytes, so the sum is a number of bytes. -/
theorem fillQueriesShowTheView : Obligations.FillQueriesShowTheView := by
  refine ⟨rfl, rfl, ?_⟩
  intro s r n len
  split
  · next hlc =>
    have hready : ¬s.lc.ringReady = true := by rw [Lifecycle.ringReady_false.mpr hlc]; decide
    exact ⟨if_neg hready, if_neg hready⟩
  · next hlc =>
    have hready := ringReady_of_not hlc
    have hfill : s.appFill = n := s.appFill_eq
    have hread : s.appR.toNat = r := by rw [State.appR_eq, apply_ite BitVec.toNat]
    have hlen : s.appLen = len := by
      funext j
      rw [State.appLen, hread]
      rfl
    have hpayload := execRbFillPayload_of_ready hready
    have hsum : s.payloadSum = ((List.range n).map fun j => (len j : Int) - s.hdrSize.toNat).sum := by
      rw [← hfill, ← hlen]
      rfl
    have hbytes : s.payloadBytes = ((List.range n).map fun j => len j - s.hdrSize.toNat).sum := by
      rw [← hfill, ← hlen]
      rfl
    rw [← hsum, ← hbytes, ← hfill, ← hlen]
    refine ⟨execRbFillPackets_of_ready hready, hpayload, fun hs => ?_⟩
    obtain ⟨hcap, -⟩ := hs.appView hready
    obtain ⟨hram, -⟩ := hs.ram_bound hready
    refine ⟨hcap, fun j hj => ?_, hs.payloadBytes_le hready, hram, fun t ht => ?_⟩
    · obtain ⟨hmin, -⟩ := hs.appLen_bounds hready hj
      exact hmin
    · cases hpayload.symm.trans ht
      exact hs.payloadSum_toNat hready

/-- Settles O15, check by check; past them the slot of `W` is written. -/
theorem rbAddStoresThePacket : Obligations.RbAddStoresThePacket := by
  refine ⟨rfl, ?_⟩
  intro s len
  refine ite_of_eq_ite (execRbAdd_eq s) id fun hexec => ?_
  refine ite_of_eq_ite hexec id fun hexec => ?_
  refine ite_of_eq_ite hexec id fun hexec => ?_
  refine ite_of_eq_ite hexec id fun hexec => ?_
  have hadded := ringAdd_ringAdded s (s.txbBytes 0 len) 0 0 0 0
  rw [State.txbBytes_length] at hadded
  rw [← s.txbBytes_zero]
  exact ⟨_, _, hadded, hexec⟩

/-- Settles O16, check by check; past them the packet at the head of the ring goes to TXB. -/
theorem rbGetTakesTheOldestPacket : Obligations.RbGetTakesTheOldestPacket := by
  refine ⟨rfl, ?_⟩
  intro s k e
  refine ite_of_eq_ite (execRbGet_eq s) id fun hexec => ?_
  refine ite_of_eq_ite hexec id fun hexec => ?_
  refine ite_of_eq_ite hexec id fun hexec => ?_
  refine ite_of_eq_ite hexec id fun hexec => ?_
  refine ⟨s.gotPacket.txb, metaWord e.tag e.sy e.cycle, s.gotPacket_txb, metaWord_toNat .., hexec.trans ?_⟩
  rw [BitVec.ofNat_toNat]
  exact succeeds_of_res (s := s.fetchPacket) rfl (res_set_three ..)

end

section
/-! PROOFS. The ISO transactions by their checks (R310, R311, R313, R315). For O38 to O40 and O42. -/

namespace Sys2Proof.Machine

/-! ### Enabling (R315) -/

theorem State.putEnabled_iff {s : State} : s.putEnabled = true ↔ s.lc = .running ∧ s.brp = false ∧ s.dir = .rx := by
  simp only [State.putEnabled, Bool.and_eq_true, Bool.not_eq_true', decide_eq_true_eq, and_assoc]

theorem State.getEnabled_iff {s : State} : s.getEnabled = true ↔ s.lc = .running ∧ s.brp = false ∧ s.dir = .tx := by
  simp only [State.getEnabled, Bool.and_eq_true, Bool.not_eq_true', decide_eq_true_eq, and_assoc]

/-- No transaction is enabled outside RUNNING (R315). -/
theorem State.disabled_of_not_running {s : State} (h : s.lc ≠ .running) :
    s.putEnabled = false ∧ s.getEnabled = false := by
  rw [Bool.eq_false_iff, Bool.eq_false_iff, ne_eq, ne_eq, State.putEnabled_iff, State.getEnabled_iff]
  exact ⟨fun ⟨hlc, _⟩ => h hlc, fun ⟨hlc, _⟩ => h hlc⟩

section
variable {s : State} {data : List Byte} {channel : BitVec 6} {tag : BitVec 2} {sy : BitVec 4} {cycle : BitVec 13}
  {dropped ctr : Word} {maxLength : BitVec 16}

theorem execIsoPut_of_disabled (h : s.lc ≠ .running ∨ s.brp = true ∨ s.dir = .tx) :
    execIsoPut data channel tag sy cycle dropped ctr s = .next (s.answer .notEnabled) := by
  refine if_neg fun hen => ?_
  obtain ⟨hlc, hbrp, hdir⟩ := State.putEnabled_iff.mp hen
  simp [hlc, hbrp, hdir] at h

theorem execIsoGet_of_disabled (h : s.lc ≠ .running ∨ s.brp = true ∨ s.dir = .rx) :
    execIsoGet cycle dropped maxLength s = .next (s.answer .notEnabled) := by
  refine if_neg fun hen => ?_
  obtain ⟨hlc, hbrp, hdir⟩ := State.getEnabled_iff.mp hen
  simp [hlc, hbrp, hdir] at h

/-! ### ISO_PUT (R310) -/

/-- A reception by its checks: the two that count a protocol error are one (R310). -/
theorem State.receive_eq (s : State) (data : List Byte) (channel : BitVec 6) (tag : BitVec 2) (sy : BitVec 4)
    (cycle : BitVec 13) (ctr : Word) :
    s.receive data channel tag sy cycle ctr =
      if channel ≠ s.chan ∨ data.length < s.hdrSize.toNat ∨ s.maxPkt.toNat < data.length then s.count .isoProto
      else if s.producerFill = s.cap.toNat then s.count .overflow
      else s.ringAdd data tag sy cycle ctr := by
  rw [State.receive, ← ite_or]

/-- An enabled ISO_PUT answers OK whatever becomes of the packet (R310, R314). -/
theorem execIsoPut_eq (hen : s.putEnabled = true) :
    execIsoPut data channel tag sy cycle dropped ctr s =
      if channel ≠ s.chan ∨ data.length < s.hdrSize.toNat ∨ s.maxPkt.toNat < data.length then
        .next (((s.addTo .llDropped dropped).count .isoProto).answer (.isoPut .ok))
      else if fill s.cap s.wIdx s.rAtP = s.cap.toNat then
        .next (((s.addTo .llDropped dropped).count .overflow).answer (.isoPut .ok))
      else .next (((s.addTo .llDropped dropped).ringAdd data tag sy cycle ctr).answer (.isoPut .ok)) := by
  rw [execIsoPut, if_pos hen, State.receive_eq, apply_ite (State.answer · _), apply_ite (State.answer · _),
    apply_ite Host.Outcome.next, apply_ite Host.Outcome.next]
  rfl

/-! ### ISO_GET (R311, R313) -/

theorem execIsoGet_of_short (hen : s.getEnabled = true) (h : maxLength.toNat < 8) :
    execIsoGet cycle dropped maxLength s = .fault .ifMaxLen :=
  (if_pos hen).trans (if_pos h)

/-- ISO_GET's outputs for a packet of the bytes `d` (R185, R311). -/
def State.sentPacket (s : State) (d : List Byte) : Response :=
  .isoGet d (BitVec.ofNat 16 d.length) (txIsoTag s.txIso) (txIsoSy s.txIso) .ok

theorem execIsoGet_of_room (hen : s.getEnabled = true) (h : 8 ≤ maxLength.toNat) :
    execIsoGet cycle dropped maxLength s =
      .next (((s.addTo .llDropped dropped).transmit maxLength.toNat).1.answer
        (s.sentPacket ((s.addTo .llDropped dropped).transmit maxLength.toNat).2)) :=
  (if_pos hen).trans (if_neg (Nat.not_lt.mpr h))

/-! The three outcomes of a transmission (R311). -/

theorem State.transmit_of_empty {n : Nat} (hempty : s.consumerFill = 0) :
    s.transmit n = (s.count .underflow, s.noData) :=
  if_pos hempty

theorem State.transmit_of_misfit {n : Nat} (hpacket : s.consumerFill ≠ 0)
    (hmisfit : n < s.headMeta.len.toNat ∨ s.headMeta.len.toNat < 8) :
    s.transmit n = (s.ringDrop.count .isoProto, s.noData) :=
  (if_neg hpacket).trans (if_pos hmisfit)

theorem State.transmit_of_fit {n : Nat} (hpacket : s.consumerFill ≠ 0)
    (hfit : ¬(n < s.headMeta.len.toNat ∨ s.headMeta.len.toNat < 8)) :
    s.transmit n = ({ s.ringDrop with isoDbcNext := s.dbcAfter s.headBytes }, s.headBytes) :=
  (if_neg hpacket).trans (if_neg hfit)

end

/-- The state after a packet is discarded as too long or too short (R311). -/
theorem State.discarded_eq (s : State) (dropped : Word) :
    (s.addTo .llDropped dropped).ringDrop.count .isoProto =
      { s with
        counters :=
          { s.counters with llDropped := s.counters.llDropped + dropped, isoProto := s.counters.isoProto + 1 }
        rIdx := nextIndex s.cap s.rIdx } := rfl

/-! #### The bytes sent -/

theorem State.noData_length (s : State) : s.noData.length = 8 := rfl

/-- Every packet that ISO_GET sends has room for its CIP header and fits (R311, R314). -/
theorem State.transmit_length {maxLength : Nat} (s : State) (h : 8 ≤ maxLength) :
    8 ≤ (s.transmit maxLength).2.length ∧ (s.transmit maxLength).2.length ≤ maxLength := by
  rcases s.transmit_cases maxLength with ⟨-, hsent⟩ | ⟨-, hsent⟩ | ⟨-, hmin, hmax, hsent⟩ <;> rw [hsent]
  · exact ⟨s.noData_length.ge, s.noData_length.trans_le h⟩
  · exact ⟨s.noData_length.ge, s.noData_length.trans_le h⟩
  · rw [State.headBytes_length]
    exact ⟨hmin, hmax⟩

/-- The bytes of a quadlet from its number (R121). -/
theorem putBe32_eq_ofNat (q : Word) :
    putBe32 q = [BitVec.ofNat 8 (q.toNat / 2 ^ 24), BitVec.ofNat 8 (q.toNat / 2 ^ 16), BitVec.ofNat 8 (q.toNat / 2 ^ 8),
      BitVec.ofNat 8 q.toNat] := by
  simp only [putBe32, BitVec.extractLsb', Nat.shiftRight_eq_div_pow, Nat.pow_zero, Nat.div_one]

/-- The bytes of a transmitted Q0 (R170, R313). -/
theorem putBe32_makeCip0 (sid : BitVec 6) (dbs dbc : BitVec 8) :
    putBe32 (makeCip0 sid dbs dbc) = [BitVec.ofNat 8 sid.toNat, dbs, 0, dbc] := by
  have hnum : (makeCip0 sid dbs dbc).toNat = sid.toNat * 2 ^ 24 + dbs.toNat * 2 ^ 16 + dbc.toNat := by
    simp only [makeCip0, toNat_append_add, BitVec.toNat_ofNat]
    omega
  simp only [putBe32_eq_ofNat, hnum, List.cons.injEq, and_true, ← BitVec.toNat_inj, BitVec.ofNat_eq_ofNat,
    BitVec.toNat_ofNat]
  omega

/-- The bytes of a transmitted Q1 (R171, R313). -/
theorem putBe32_makeCip1 (fmt : BitVec 6) (fdf : BitVec 8) (syt : BitVec 16) :
    putBe32 (makeCip1 fmt fdf syt) =
      [BitVec.ofNat 8 (2 ^ 7 + fmt.toNat), fdf, BitVec.ofNat 8 (syt.toNat / 2 ^ 8), BitVec.ofNat 8 syt.toNat] := by
  have hnum : (makeCip1 fmt fdf syt).toNat = (2 ^ 7 + fmt.toNat) * 2 ^ 24 + fdf.toNat * 2 ^ 16 + syt.toNat := by
    simp only [makeCip1, toNat_append_add, BitVec.toNat_ofNat]
    omega
  simp only [putBe32_eq_ofNat, hnum, List.cons.injEq, and_true, ← BitVec.toNat_inj, BitVec.toNat_ofNat]
  omega

/-- The CIP header that a transmit stream makes of TX_CIP, byte by byte (R56, R313, R370). -/
theorem txHeader_bytes (v : Word) (dbs dbc : BitVec 8) (y : BitVec 16) :
    putBe32 (makeCip0 (txCipSid v) dbs dbc) ++ putBe32 (makeCip1 (txCipFmt v) (txCipFdf v) y) =
      [ BitVec.ofNat 8 (v.toNat % 2 ^ 6), dbs, 0, dbc, BitVec.ofNat 8 (2 ^ 7 + v.toNat / 2 ^ 8 % 2 ^ 6),
        BitVec.ofNat 8 (v.toNat / 2 ^ 16), BitVec.ofNat 8 (y.toNat / 2 ^ 8), BitVec.ofNat 8 y.toNat ] := by
  have hsid : (txCipSid v).toNat = v.toNat % 2 ^ 6 := BitVec.extractLsb'_toNat ..
  have hfmt : (txCipFmt v).toNat = v.toNat / 2 ^ 8 % 2 ^ 6 := by
    rw [txCipFmt, BitVec.extractLsb'_toNat, Nat.shiftRight_eq_div_pow]
  have hfdf : txCipFdf v = BitVec.ofNat 8 (v.toNat / 2 ^ 16) := by
    rw [txCipFdf, BitVec.extractLsb', Nat.shiftRight_eq_div_pow]
  rw [putBe32_makeCip0, putBe32_makeCip1, hsid, hfmt, hfdf]
  rfl

/-- The no-data packet, byte by byte (R313). -/
theorem State.noData_bytes (s : State) :
    s.noData =
      [ BitVec.ofNat 8 (s.txCip.toNat % 2 ^ 6), s.dim, 0, s.isoDbcNext,
        BitVec.ofNat 8 (2 ^ 7 + s.txCip.toNat / 2 ^ 8 % 2 ^ 6), BitVec.ofNat 8 (s.txCip.toNat / 2 ^ 16), 0xFF, 0xFF ] :=
  txHeader_bytes s.txCip s.dim s.isoDbcNext 0xFFFF

/-- The DBC after the last block of the packet at the head of the ring, which has a byte 3 (R311). -/
theorem State.dbcAfter_headBytes {s : State} (h : 8 ≤ s.headMeta.len.toNat) :
    s.dbcAfter s.headBytes =
      BitVec.ofNat 8 ((s.ringByte (slot s.cap s.rIdx.toNat * s.maxPkt.toNat + 3)).toNat +
        (s.headMeta.len.toNat - 8) / (4 * s.dim.toNat)) := by
  rw [State.dbcAfter, List.getD_eq_getElem?_getD, s.headBytes_getElem? (by omega), Option.getD_some,
    State.headBytes_length]

end Sys2Proof.Machine
end

section
/-! PROOFS. The commands with operands by their checks on the numbers in ARG (R331, R332, R336). For O6, O7 and O41. -/

namespace Sys2Proof.Machine

/-- An operand field has the number of its register when no bit stands above it (R181). -/
theorem toNat_setWidth_of_lt {x : Word} {n : Nat} (h : x.toNat < 2 ^ n) : (x.setWidth n).toNat = x.toNat := by
  rw [BitVec.toNat_setWidth, Nat.mod_eq_of_lt h]

/-- Of three operands that are not all read, one has a bit outside its field (R181). -/
theorem State.argFields_refused {s : State} {i j k : Fin 8} {l m n : Nat}
    (h : ∀ a b c, s.argField i l = some a → s.argField j m = some b → s.argField k n = some c → False) :
    2 ^ l ≤ s.arg[i].toNat ∨ 2 ^ m ≤ s.arg[j].toNat ∨ 2 ^ n ≤ s.arg[k].toNat := by
  by_contra! hlt
  obtain ⟨hlt_i, hlt_j, hlt_k⟩ := hlt
  exact h _ _ _ (State.argField_of_lt hlt_i) (State.argField_of_lt hlt_j) (State.argField_of_lt hlt_k)

/-- OPEN by its checks (R331). -/
theorem execOpenStream_eq (s : State) :
    execOpenStream s =
      if s.lc ≠ .closed then s.fails .eState
      else if 64 ≤ s.arg[0].toNat ∨ 2 ≤ s.arg[1].toNat ∨ 256 ≤ s.arg[2].toNat ∨ s.arg[2].toNat = 0 then s.fails .eArg
      else
        (s.openFor (BitVec.ofNat 6 s.arg[0].toNat) (if s.arg[1].toNat = 0 then .rx else .tx)
          (BitVec.ofNat 8 s.arg[2].toNat)).succeeds := by
  rw [execOpenStream]
  refine if_congr Iff.rfl rfl ?_
  split
  · next ch d dim hch hd hdim =>
    obtain ⟨hlt0, rfl⟩ := State.argField_some hch
    obtain ⟨hlt1, rfl⟩ := State.argField_some hd
    obtain ⟨hlt2, rfl⟩ := State.argField_some hdim
    have hlt0 : s.arg[0].toNat < 64 := hlt0
    have hlt1 : s.arg[1].toNat < 2 := hlt1
    have hlt2 : s.arg[2].toNat < 256 := hlt2
    rw [BitVec.ofNat_toNat, BitVec.ofNat_toNat, ← directionOf_eq hlt1]
    have hdim : s.arg[2].setWidth 8 = 0 ↔ s.arg[2].toNat = 0 := setWidth_eq_zero hlt2
    exact if_congr (hdim.trans (by omega)) rfl rfl
  · next hnone =>
    have hout : 2 ^ 6 ≤ s.arg[0].toNat ∨ 2 ^ 1 ≤ s.arg[1].toNat ∨ 2 ^ 8 ≤ s.arg[2].toNat :=
      State.argFields_refused hnone
    exact (if_pos (by omega)).symm

/-- INIT's operands by their numbers (R332 check 2). -/
theorem State.initArgsLegal_iff {s : State} {hdr : BitVec 13} {cap : BitVec 14} {maxpkt : BitVec 13} :
    s.initArgsLegal hdr cap maxpkt = true ↔
      cap.toNat ≠ 0 ∧ cap.toNat ≤ s.params.capMax ∧ maxpkt.toNat ≠ 0 ∧ maxpkt.toNat ≤ s.params.maxPktLimit ∧
        hdr.toNat ≤ maxpkt.toNat := by
  simp only [State.initArgsLegal, Bool.and_eq_true, decide_eq_true_eq, and_assoc, ne_eq, ← BitVec.toNat_inj,
    BitVec.ofNat_eq_ofNat, BitVec.toNat_ofNat, Nat.zero_mod]

/-- INIT by its checks (R332). -/
theorem execInit_eq (s : State) :
    execInit s =
      if s.lc ≠ .opened then s.fails .eState
      else if 2 ^ 13 ≤ s.arg[0].toNat ∨ 2 ^ 14 ≤ s.arg[1].toNat ∨ 2 ^ 13 ≤ s.arg[2].toNat ∨ s.arg[1].toNat = 0 ∨
          s.params.capMax < s.arg[1].toNat ∨ s.arg[2].toNat = 0 ∨ s.params.maxPktLimit < s.arg[2].toNat ∨
          s.arg[2].toNat < s.arg[0].toNat then s.fails .eArg
      else if s.params.ramBytes < s.arg[1].toNat * s.arg[2].toNat then s.teardown.fails .eResource
      else
        (s.initRing (BitVec.ofNat 13 s.arg[0].toNat) (BitVec.ofNat 14 s.arg[1].toNat)
          (BitVec.ofNat 13 s.arg[2].toNat)).succeeds := by
  rw [execInit]
  refine if_congr Iff.rfl rfl ?_
  split
  · next hdr cap maxpkt hhdr hcap hmaxpkt =>
    obtain ⟨hlt0, rfl⟩ := State.argField_some hhdr
    obtain ⟨hlt1, rfl⟩ := State.argField_some hcap
    obtain ⟨hlt2, rfl⟩ := State.argField_some hmaxpkt
    have hlt0 : s.arg[0].toNat < 2 ^ 13 := hlt0
    have hlt1 : s.arg[1].toNat < 2 ^ 14 := hlt1
    have hlt2 : s.arg[2].toNat < 2 ^ 13 := hlt2
    have hlegal := State.initArgsLegal_iff (s := s) (hdr := s.arg[0].setWidth 13) (cap := s.arg[1].setWidth 14)
      (maxpkt := s.arg[2].setWidth 13)
    rw [toNat_setWidth_of_lt hlt0, toNat_setWidth_of_lt hlt1, toNat_setWidth_of_lt hlt2] at hlegal
    rw [BitVec.ofNat_toNat, BitVec.ofNat_toNat, BitVec.ofNat_toNat]
    by_cases hargs : s.initArgsLegal (s.arg[0].setWidth 13) (s.arg[1].setWidth 14) (s.arg[2].setWidth 13) = true
    · have hgood := hlegal.mp hargs
      refine (if_pos hargs).trans (Eq.trans ?_ (if_neg (by omega)).symm)
      rw [← toNat_setWidth_of_lt hlt1, ← toNat_setWidth_of_lt hlt2]
      rfl
    · have hbad := mt hlegal.mpr hargs
      exact (if_neg hargs).trans (if_pos (by omega)).symm
  · next hnone =>
    have hout : 2 ^ 13 ≤ s.arg[0].toNat ∨ 2 ^ 14 ≤ s.arg[1].toNat ∨ 2 ^ 13 ≤ s.arg[2].toNat :=
      State.argFields_refused hnone
    exact (if_pos (by omega)).symm

/-- RESUME by its checks (R336). -/
theorem execResume_eq (s : State) :
    execResume s =
      if s.lc = .closed ∨ s.brp = false then s.fails .eState
      else if 64 ≤ s.arg[0].toNat then s.fails .eArg
      else { s with chan := BitVec.ofNat 6 s.arg[0].toNat, brp := false }.succeeds := by
  rw [execResume]
  refine if_congr Iff.rfl rfl ?_
  by_cases hbig : 64 ≤ s.arg[0].toNat
  · rw [State.argField_of_ge (n := 6) hbig, if_pos hbig]
  · rw [State.argField_of_lt (n := 6) (Nat.not_le.mp hbig), if_neg hbig, BitVec.ofNat_toNat]
    rfl

end Sys2Proof.Machine
end

section
open Sys2Proof Sys2Proof.Machine

/-- Settles O40: the packet is the no-data packet, or the one at the head of the ring when it is of legal length. -/
theorem isoGetAlwaysSendsALegalPacket : Obligations.IsoGetAlwaysSendsALegalPacket := by
  intro s cycle dropped maxLength hen hroom
  obtain ⟨hmin, hmax⟩ := (s.addTo .llDropped dropped).transmit_length hroom
  refine ⟨_, _, _, execIsoGet_of_room (cycle := cycle) hen hroom, rfl, hmin, hmax, ?_⟩
  rw [BitVec.toNat_ofNat, Nat.mod_eq_of_lt (hmax.trans_lt maxLength.isLt)]

/-- Settles O5: NOP is a command's success and nothing else. -/
theorem nopOnlyClearsTheError : Obligations.NopOnlyClearsTheError := ⟨rfl, fun _ => rfl⟩

/-- Settles O6, check by check. -/
theorem openStartsAStream : Obligations.OpenStartsAStream := by
  refine ⟨rfl, ?_⟩
  intro s
  refine ite_of_eq_ite (execOpenStream_eq s) id fun hexec => ?_
  exact ite_of_eq_ite hexec id id

/-- Settles O7, check by check. -/
theorem initAllocatesTheRing : Obligations.InitAllocatesTheRing := by
  refine ⟨rfl, ?_⟩
  intro s
  refine ite_of_eq_ite (execInit_eq s) id fun hexec => ?_
  refine ite_of_eq_ite hexec id fun hexec => ?_
  exact ite_of_eq_ite hexec id id

/-- Settles O8: STOP leaves RUNNING, where alone the transactions are enabled. -/
theorem startAndStopTheStream : Obligations.StartAndStopTheStream := by
  refine ⟨rfl, rfl, ?_⟩
  intro s
  refine ⟨ite_of_eq_ite (execStart.eq_def s) id id, ite_of_eq_ite (execStop.eq_def s) (fun hexec => ⟨hexec, ?_⟩) id⟩
  intro t ht
  cases hexec.symm.trans ht
  have hstopped : Lifecycle.stopped ≠ .running := by decide
  exact State.disabled_of_not_running hstopped

/-- Settles O9, by the command's one check. -/
theorem closeTearsDown : Obligations.CloseTearsDown :=
  ⟨rfl, fun s => ite_of_eq_ite (execClose.eq_def s) id id⟩

/-- Settles O38, check by check; past them the slot of `W` is written. -/
theorem isoPutReceivesAPacket : Obligations.IsoPutReceivesAPacket := by
  intro s data channel tag sy cycle dropped ctr put lost hlc hbrp hdir
  have hen := State.putEnabled_iff.mpr ⟨hlc, hbrp, hdir⟩
  refine ite_of_eq_ite (execIsoPut_eq hen) id fun hexec => ?_
  refine ite_of_eq_ite hexec id fun hexec => ?_
  exact ⟨_, _, ringAdd_ringAdded (s.addTo .llDropped dropped) data tag sy cycle ctr, hexec⟩

/-- Settles O39, by the outcomes of a transmission; the no-data packet and the DBC are read off byte by byte. -/
theorem isoGetSendsAPacket : Obligations.IsoGetSendsAPacket := by
  intro s cycle dropped maxLength get lost k L bytes next nodata out hlc hbrp hdir
  have hen := State.getEnabled_iff.mpr ⟨hlc, hbrp, hdir⟩
  split
  · next hshort => exact execIsoGet_of_short (cycle := cycle) hen hshort
  · next hroom =>
    have hget := execIsoGet_of_room (cycle := cycle) (dropped := dropped) hen (Nat.not_lt.mp hroom)
    set counted := s.addTo .llDropped dropped
    split
    · next hempty =>
      rw [State.transmit_of_empty (s := counted) hempty, State.noData_bytes] at hget
      exact hget
    · next hpacket =>
      split
      · next hmisfit =>
        rw [State.transmit_of_misfit (s := counted) hpacket hmisfit, State.noData_bytes, State.discarded_eq] at hget
        exact hget
      · next hfit =>
        have hmin : 8 ≤ counted.headMeta.len.toNat := Nat.not_lt.mp fun hlt => hfit (.inr hlt)
        rw [State.transmit_of_fit (s := counted) hpacket hfit, State.dbcAfter_headBytes hmin] at hget
        exact hget

/-- Settles O41, check by check. -/
theorem busResetAndResume : Obligations.BusResetAndResume := by
  refine ⟨rfl, ?_⟩
  intro s
  refine ⟨ite_of_eq_ite (execIsoBusReset.eq_def s) id id, ?_⟩
  refine ite_of_eq_ite (execResume_eq s) id fun hexec => ?_
  exact ite_of_eq_ite hexec id id

/-- Settles O42, by what enabling asks. -/
theorem disabledTransactionsDoNotOccur : Obligations.DisabledTransactionsDoNotOccur :=
  ⟨fun _ _ _ _ _ _ _ _ h => execIsoPut_of_disabled h, fun _ cycle _ _ h => execIsoGet_of_disabled (cycle := cycle) h⟩

end

section
/-! PROOFS. What SP_DEMUX and the MIDI decoder do to one port: the items offered to its queue, those turned away, and the
state after them as one explicit update. For O59 and O20. -/

namespace Sys2Proof.Machine

/-! ### Items offered to a queue (R368, R412) -/

/-- A queue of depth `depth` after `items` are offered to it in order: those it has room for are appended. -/
def offered {α : Type} (depth : Nat) (queue items : List α) : List α := queue ++ items.take (depth - queue.length)

/-- How many of the items find no room. -/
def turnedAway {α : Type} (depth : Nat) (queue items : List α) : Nat := items.length - (depth - queue.length)

section
variable {α : Type} (depth : Nat) (queue items more : List α) (x : α)

@[simp] theorem offered_nil : offered depth queue [] = queue := by simp [offered]

@[simp] theorem turnedAway_nil : turnedAway depth queue ([] : List α) = 0 := by simp [turnedAway]

theorem offered_append : offered depth queue (items ++ more) = offered depth (offered depth queue items) more := by
  simp only [offered, List.take_append, List.append_assoc, List.length_append, List.length_take]
  rw [show depth - queue.length - items.length = depth - (queue.length + min (depth - queue.length) items.length) by omega]

theorem turnedAway_append :
    turnedAway depth queue (items ++ more) =
      turnedAway depth queue items + turnedAway depth (offered depth queue items) more := by
  simp only [turnedAway, offered, List.length_append, List.length_take]
  omega

theorem offered_single : offered depth queue [x] = if queue.length < depth then queue ++ [x] else queue := by
  unfold offered
  split
  · next hroom => rw [List.take_of_length_le (by simp; omega)]
  · next hfull => rw [show depth - queue.length = 0 by omega, List.take_zero, List.append_nil]

theorem turnedAway_single : turnedAway depth queue [x] = if queue.length < depth then 0 else 1 := by
  unfold turnedAway
  split <;> simp <;> omega

theorem offered_length_le (h : queue.length ≤ depth) : (offered depth queue items).length ≤ depth := by
  simp only [offered, List.length_append, List.length_take]
  omega

variable {depth queue items x}

theorem mem_offered (h : x ∈ offered depth queue items) : x ∈ queue ∨ x ∈ items :=
  (List.mem_append.mp h).imp_right List.mem_of_mem_take

end

/-! ### MIDI bytes fed in order (R411) -/

theorem feedBytes_append (md : MidiDecoder) (bs cs : List Byte) :
    feedBytes md (bs ++ cs) =
      ((feedBytes (feedBytes md bs).1 cs).1, (feedBytes md bs).2.1 ++ (feedBytes (feedBytes md bs).1 cs).2.1,
        (feedBytes md bs).2.2 + (feedBytes (feedBytes md bs).1 cs).2.2) := by
  induction bs generalizing md with
  | nil => simp [feedBytes]
  | cons b bs ih => simp [feedBytes, ih, Nat.add_assoc]

theorem feedBytes_single (md : MidiDecoder) (b : Byte) :
    feedBytes md [b] = ((feedByte md b).md, (feedByte md b).msg.toList, (feedByte md b).discards) := by
  simp [feedBytes]

/-! ### A port with items taken in -/

/-- The port after samples are offered to its FIFO. -/
def Port.takeSamples (q : Port) (depth : Nat) (samples : List Word) : Port :=
  { q with pf := offered depth q.pf samples }

/-- The port after bytes are fed to its decoder and the completed messages offered to its queue. -/
def Port.takeMidi (q : Port) (depth : Nat) (bytes : List Byte) : Port :=
  { q with md := (feedBytes q.md bytes).1, mq := offered depth q.mq (feedBytes q.md bytes).2.1 }

/-- How many messages those bytes complete without room in the queue. -/
def Port.midiTurnedAway (q : Port) (depth : Nat) (bytes : List Byte) : Nat :=
  turnedAway depth q.mq (feedBytes q.md bytes).2.1

theorem Port.takeSamples_append (q : Port) (depth : Nat) (vs ws : List Word) :
    q.takeSamples depth (vs ++ ws) = (q.takeSamples depth vs).takeSamples depth ws := by
  simp only [Port.takeSamples, offered_append]

theorem Port.takeMidi_append (q : Port) (depth : Nat) (bs cs : List Byte) :
    q.takeMidi depth (bs ++ cs) = (q.takeMidi depth bs).takeMidi depth cs := by
  simp only [Port.takeMidi, feedBytes_append, offered_append]

theorem Port.midiTurnedAway_append (q : Port) (depth : Nat) (bs cs : List Byte) :
    q.midiTurnedAway depth (bs ++ cs) = q.midiTurnedAway depth bs + (q.takeMidi depth bs).midiTurnedAway depth cs := by
  simp only [Port.midiTurnedAway, Port.takeMidi, feedBytes_append, turnedAway_append]

@[simp] theorem Port.takeSamples_nil (q : Port) (depth : Nat) : q.takeSamples depth [] = q := by
  simp [Port.takeSamples]

@[simp] theorem Port.takeMidi_nil (q : Port) (depth : Nat) : q.takeMidi depth [] = q := by
  simp [Port.takeMidi, feedBytes]

@[simp] theorem Port.midiTurnedAway_nil (q : Port) (depth : Nat) : q.midiTurnedAway depth [] = 0 := by
  simp [Port.midiTurnedAway, feedBytes]

/-! ### The state with items taken in -/

/-- `s` with `q` for port `p`, with so many drops and discards counted. -/
def State.takenIn (s : State) (p : Fin 64) (q : Port) (drops discards : Nat) : State :=
  { s with
    ports := s.ports.set p.val q p.isLt
    counters := { s.counters with
      portOvf := s.counters.portOvf + BitVec.ofNat 32 drops
      midiDiscard := s.counters.midiDiscard + BitVec.ofNat 32 discards } }

section
variable (s : State) (p : Fin 64) (q q' : Port) (a b c d : Nat)

theorem State.takenIn_port (r : Fin 64) : (s.takenIn p q a b).ports[r] = if p = r then q else s.ports[r] :=
  s.setPort_port p q r

@[simp] theorem State.takenIn_port_self : (s.takenIn p q a b).ports[p] = q := by
  rw [State.takenIn_port, if_pos rfl]

@[simp] theorem State.takenIn_params : (s.takenIn p q a b).params = s.params := rfl

theorem State.takenIn_takenIn : (s.takenIn p q a b).takenIn p q' c d = s.takenIn p q' (a + c) (b + d) := by
  simp [State.takenIn, BitVec.ofNat_add, BitVec.add_assoc]

theorem State.takenIn_nothing : s.takenIn p s.ports[p] 0 0 = s := by simp [State.takenIn]

/-- A counted overflow leaves the port as it is. -/
theorem State.count_portOvf_eq : s.count .portOvf = s.takenIn p s.ports[p] 1 0 := by
  simp [State.takenIn, State.count, State.addTo, Counters.add]

end

/-- Queueing a captured sample (R368). -/
theorem State.pushSample_eq (s : State) (p : Fin 64) (v : Word) :
    s.pushSample p v = s.takenIn p (s.ports[p].takeSamples s.params.portDepth [v])
      (turnedAway s.params.portDepth s.ports[p].pf [v]) 0 := by
  unfold State.pushSample Port.takeSamples
  rw [offered_single, turnedAway_single]
  dsimp only
  split
  · simp [State.takenIn, State.setPort]
  · exact s.count_portOvf_eq p

theorem State.emitMessage_eq (s : State) (p : Fin 64) (m : Word) :
    s.emitMessage p m =
      s.takenIn p { s.ports[p] with mq := offered s.params.midiMsgDepth s.ports[p].mq [m] }
        (turnedAway s.params.midiMsgDepth s.ports[p].mq [m]) 0 := by
  unfold State.emitMessage
  rw [offered_single, turnedAway_single]
  dsimp only
  split
  · simp [State.takenIn, State.setPort]
  · exact s.count_portOvf_eq p

/-- Feeding one byte to a port's decoder (R411, R412). -/
theorem State.midiFeed_eq (s : State) (p : Fin 64) (b : Byte) :
    s.midiFeed p b = s.takenIn p (s.ports[p].takeMidi s.params.midiMsgDepth [b])
      (s.ports[p].midiTurnedAway s.params.midiMsgDepth [b]) (feedBytes s.ports[p].md [b]).2.2 := by
  have hfed : (s.setPort p { s.ports[p] with md := (feedByte s.ports[p].md b).md }).addTo .midiDiscard
        (BitVec.ofNat 32 (feedByte s.ports[p].md b).discards) =
      s.takenIn p { s.ports[p] with md := (feedByte s.ports[p].md b).md } 0 (feedByte s.ports[p].md b).discards := by
    simp [State.takenIn, State.setPort, State.addTo, Counters.add]
  unfold State.midiFeed
  dsimp only
  rw [hfed, Port.takeMidi, Port.midiTurnedAway, feedBytes_single]
  cases (feedByte s.ports[p].md b).msg with
  | none => simp
  | some m =>
    simp only [State.emitMessage_eq, State.takenIn_takenIn, State.takenIn_port_self, State.takenIn_params,
      Option.toList_some, Nat.zero_add, Nat.add_zero]

/-- Feeding bytes in order, as one update. -/
theorem State.foldl_midiFeed (s : State) (p : Fin 64) (bs : List Byte) :
    bs.foldl (fun t b => t.midiFeed p b) s = s.takenIn p (s.ports[p].takeMidi s.params.midiMsgDepth bs)
      (s.ports[p].midiTurnedAway s.params.midiMsgDepth bs) (feedBytes s.ports[p].md bs).2.2 := by
  induction bs generalizing s with
  | nil => simpa [feedBytes] using (s.takenIn_nothing p).symm
  | cons b bs ih =>
    rw [List.foldl_cons, ih, State.midiFeed_eq, State.takenIn_takenIn, State.takenIn_port_self, State.takenIn_params,
      ← Port.takeMidi_append, ← Port.midiTurnedAway_append, List.singleton_append]
    rfl

/-- The label of a MIDI slot is none that R174 lists. -/
def unknownLabel (m0 : Byte) : Bool := decide (m0 ≠ 0x80 ∧ m0 ≠ 0x81 ∧ m0 ≠ 0x82 ∧ m0 ≠ 0x83)

/-- One MIDI slot (R369). -/
theorem State.midiSlot_eq (s : State) (p : Fin 64) (m0 m1 m2 m3 : Byte) :
    s.midiSlot p m0 m1 m2 m3 =
      s.takenIn p (s.ports[p].takeMidi s.params.midiMsgDepth (slotMidiBytes m0 m1 m2 m3))
        (s.ports[p].midiTurnedAway s.params.midiMsgDepth (slotMidiBytes m0 m1 m2 m3))
        ((feedBytes s.ports[p].md (slotMidiBytes m0 m1 m2 m3)).2.2 + if unknownLabel m0 then 1 else 0) := by
  by_cases hunknown : unknownLabel m0 = true
  · obtain ⟨h0, h1, h2, h3⟩ := of_decide_eq_true hunknown
    rw [State.midiSlot, if_neg h0, if_neg h1, if_neg h2, if_neg h3, slotMidiBytes, if_neg h1, if_neg h2, if_neg h3,
      if_pos hunknown]
    simp [State.takenIn, State.count, State.addTo, Counters.add, feedBytes]
  · have hslot : s.midiSlot p m0 m1 m2 m3 = (slotMidiBytes m0 m1 m2 m3).foldl (fun t b => t.midiFeed p b) s := by
      unfold State.midiSlot slotMidiBytes
      have hknown : m0 = 0x80 ∨ m0 = 0x81 ∨ m0 = 0x82 ∨ m0 = 0x83 := by
        by_contra! h
        exact hunknown (decide_eq_true h)
      rcases hknown with rfl | rfl | rfl | rfl <;> rfl
    rw [hslot, State.foldl_midiFeed, if_neg hunknown, Nat.add_zero]

end Sys2Proof.Machine
end

section
/-! PROOFS. The decoder and its messages (R410, R411), read off the length table: a sound decoder stays sound and completes
only legal messages. For O59. -/

namespace Sys2Proof.Machine

/-! ### The length table (R410) -/

theorem midiUnsupported_eq_true {b : Byte} :
    midiUnsupported b = true ↔ b.toNat = 0xF0 ∨ b.toNat = 0xF4 ∨ b.toNat = 0xF5 ∨ b.toNat = 0xF7 := by
  simp only [midiUnsupported, decide_eq_true_eq, ← BitVec.toNat_inj]
  rfl

/-- A byte with a length is a supported status byte, and its message has at most two data bytes. -/
theorem datalen_some {b : Byte} {n : Nat} (h : datalen b = some n) :
    0x80 ≤ b.toNat ∧ midiUnsupported b = false ∧ n ≤ 2 := by
  rw [← Bool.not_eq_true, midiUnsupported_eq_true]
  unfold datalen at h
  dsimp only at h
  split_ifs at h <;> cases h <;> omega

/-- Every supported status byte has a length. -/
theorem datalen_of_supported {b : Byte} (hstatus : 0x80 ≤ b.toNat) (h : midiUnsupported b = false) :
    datalen b = some 0 ∨ datalen b = some 1 ∨ datalen b = some 2 := by
  rw [← Bool.not_eq_true, midiUnsupported_eq_true] at h
  have hb := b.isLt
  unfold datalen
  dsimp only
  split_ifs <;> simp <;> omega

/-- A channel status byte has one or two data bytes. -/
theorem datalen_of_channel {b : Byte} (hstatus : 0x80 ≤ b.toNat) (hchannel : b.toNat < 0xF0) :
    datalen b = some 1 ∨ datalen b = some 2 := by
  unfold datalen
  dsimp only
  split_ifs <;> simp
  all_goals omega

/-- A real-time byte is a whole message. -/
theorem datalen_of_realTime {b : Byte} (h : 0xF8 ≤ b.toNat) : datalen b = some 0 := by
  unfold datalen
  dsimp only
  iterate 8 rw [if_neg (by omega)]
  exact if_pos h

/-! ### Message words (R177, R415) -/

theorem midiWord_fields (len : BitVec 2) (b0 b1 b2 : Byte) :
    midiLen (midiWord len b0 b1 b2) = len.toNat ∧ midiB0 (midiWord len b0 b1 b2) = b0 ∧
    midiB1 (midiWord len b0 b1 b2) = b1 ∧ midiB2 (midiWord len b0 b1 b2) = b2 ∧
    (midiWord len b0 b1 b2).extractLsb' 26 6 = 0 := by
  unfold midiLen midiB0 midiB1 midiB2 midiWord
  simp (disch := omega) [BitVec.extractLsb'_append_eq_of_le, BitVec.extractLsb'_append_eq_of_add_le, -Nat.reduceAdd]

/-- A message word is legal if its length is the status byte's and its data bytes are data bytes, 0 past the length. -/
theorem midiWordLegal_midiWord {len : BitVec 2} {b0 b1 b2 : Byte} {n : Nat} (hn : datalen b0 = some n)
    (hlen : len.toNat = n + 1) (h1 : if 1 ≤ n then b1.toNat < 0x80 else b1 = 0)
    (h2 : if 2 ≤ n then b2.toNat < 0x80 else b2 = 0) : midiWordLegal (midiWord len b0 b1 b2) = true := by
  obtain ⟨hstatus, hsupported, -⟩ := datalen_some hn
  obtain ⟨hl, hb0, hb1, hb2, hzero⟩ := midiWord_fields len b0 b1 b2
  unfold midiWordLegal
  dsimp only
  rw [hl, hb0, hb1, hb2, hzero, hn, hsupported, hlen]
  split_ifs at h1 h2 ⊢ <;> simp_all

/-! ### Feeding one byte (R411) -/

/-- What R411 promises of a fed byte: a sound decoder, and a legal message if one is completed. -/
structure MidiFeed.sound (r : MidiFeed) : Prop where
  md : r.md.sound
  msg : ∀ m ∈ r.msg, midiWordLegal m = true

theorem MidiDecoder.idle_sound : MidiDecoder.idle.sound := ⟨.inl rfl, rfl, rfl⟩

/-- A status byte below 0xF8 starts a new message whatever the decoder held. -/
theorem feedStatus_sound (md : MidiDecoder) {b : Byte} (hstatus : 0x80 ≤ b.toNat) : (feedStatus md b).sound := by
  have hrsb : (if b.toNat < 0xF0 then b else 0) = 0 ∨
      (0x80 ≤ (if b.toNat < 0xF0 then b else 0).toNat ∧ (if b.toNat < 0xF0 then b else 0).toNat < 0xF0) := by
    split
    · exact .inr ⟨hstatus, ‹_›⟩
    · exact .inl rfl
  unfold feedStatus
  dsimp only
  split
  · exact ⟨MidiDecoder.idle_sound, by simp⟩
  · next hsupported =>
    split
    · next hwhole =>
      exact ⟨⟨hrsb, rfl, rfl⟩, by simpa using midiWordLegal_midiWord hwhole rfl rfl rfl⟩
    · next hdata =>
      have hlen := (datalen_of_supported hstatus (Bool.not_eq_true _ ▸ hsupported)).resolve_left hdata
      exact ⟨⟨hrsb, hlen, rfl⟩, by simp⟩

/-- A data byte completes the message in progress, or is kept for it, or is discarded. -/
theorem feedData_sound {md : MidiDecoder} (hmd : md.sound) {b : Byte} (hb : b.toNat < 0x80) :
    (feedData md b).sound := by
  obtain ⟨hrsb, hms⟩ := hmd
  unfold feedData
  cases h : md.ms with
  | awaitStatus =>
    rw [h] at hms
    obtain ⟨hcur, hd1⟩ := hms
    dsimp only
    split
    · exact ⟨⟨hrsb, by rw [h]; exact ⟨hcur, hd1⟩⟩, by simp⟩
    · next hrunning =>
      obtain ⟨hlow, hhigh⟩ := hrsb.resolve_left hrunning
      split
      · next hone =>
        exact ⟨⟨hrsb, by simp [hd1]⟩, by simpa using midiWordLegal_midiWord hone rfl hb rfl⟩
      · next hone =>
        exact ⟨⟨hrsb, (datalen_of_channel hlow hhigh).resolve_left hone, hb⟩, by simp⟩
  | awaitData1 =>
    rw [h] at hms
    obtain ⟨hlen, hd1⟩ := hms
    dsimp only
    split
    · next hone => exact ⟨⟨hrsb, rfl, hd1⟩, by simpa using midiWordLegal_midiWord hone rfl hb rfl⟩
    · next hone => exact ⟨⟨hrsb, hlen.resolve_left hone, hb⟩, by simp⟩
  | awaitData2 =>
    rw [h] at hms
    obtain ⟨hlen, hd1⟩ := hms
    exact ⟨⟨hrsb, rfl, rfl⟩, by simpa using midiWordLegal_midiWord hlen rfl hd1 hb⟩

theorem feedByte_sound {md : MidiDecoder} (hmd : md.sound) (b : Byte) : (feedByte md b).sound := by
  unfold feedByte
  split
  · next hrealTime => exact ⟨hmd, by simpa using midiWordLegal_midiWord (datalen_of_realTime hrealTime) rfl rfl rfl⟩
  · split
    · exact feedStatus_sound md ‹_›
    · exact feedData_sound hmd (by omega)

/-- Bytes fed in order to a sound decoder. -/
theorem feedBytes_sound {md : MidiDecoder} (hmd : md.sound) (bs : List Byte) :
    (feedBytes md bs).1.sound ∧ ∀ m ∈ (feedBytes md bs).2.1, midiWordLegal m = true := by
  induction bs generalizing md with
  | nil => exact ⟨hmd, by simp [feedBytes]⟩
  | cons b bs ih =>
    obtain ⟨hfirst, hmsg⟩ := feedByte_sound hmd b
    obtain ⟨hlast, hmsgs⟩ := ih hfirst
    refine ⟨hlast, fun m hm => ?_⟩
    rcases List.mem_append.mp hm with hm | hm
    · exact hmsg m (by simpa using hm)
    · exact hmsgs m hm

end Sys2Proof.Machine
end

section
/-! PROOFS. Sound ports (R362, R368, R411) by named clauses, and which changes of a port and of the table keep them sound.
For O59. -/

namespace Sys2Proof.Machine

/-! ### Entries (R176) -/

/-- A field in which the mask has no bit is not changed by setting the mask's bits. -/
theorem extractLsb'_or_of_zero {e m : Word} {i l : Nat} (h : m.extractLsb' i l = 0) :
    (e ||| m).extractLsb' i l = e.extractLsb' i l := by
  rw [BitVec.extractLsb'_or, h, BitVec.ofNat_eq_ofNat, BitVec.or_zero]

/-- Setting VALID changes no other field. -/
theorem entry_or_valid (e : Word) :
    entryValid (e ||| 1) = true ∧ entryType (e ||| 1) = entryType e ∧ entryDir (e ||| 1) = entryDir e ∧
    entryWide (e ||| 1) = entryWide e ∧ entryOffset (e ||| 1) = entryOffset e := by
  refine ⟨by simp [entryValid], ?_, ?_, by simp [entryWide], ?_⟩
  · simp only [entryType, extractLsb'_or_of_zero (e := e) (m := 1) (i := 2) (l := 2) rfl]
  · simp only [entryDir, extractLsb'_or_of_zero (e := e) (m := 1) (i := 1) (l := 1) rfl]
  · simp only [entryOffset, extractLsb'_or_of_zero (e := e) (m := 1) (i := 8) (l := 10) rfl]

theorem entryWidth_or_valid (e : Word) : entryWidth (e ||| 1) = entryWidth e := by
  obtain ⟨-, -, -, hwide, -⟩ := entry_or_valid e
  rw [entryWidth, hwide, entryWidth]

theorem entryWidth_of_wide {e : Word} (h : entryWide e = true) : entryWidth e = 4 := by simp [entryWidth, h]

theorem isMidiPort_iff {d : Direction} {e : Word} :
    isMidiPort d e = true ↔ entryValid e = true ∧ entryType e = .midi ∧ entryDir e = d := by
  simp only [isMidiPort, Bool.and_eq_true, decide_eq_true_eq, and_assoc]

theorem isSamplePort_iff {d : Direction} {e : Word} :
    isSamplePort d e = true ↔ entryValid e = true ∧ entryType e ≠ .midi ∧ entryDir e = d := by
  simp only [isSamplePort, Bool.and_eq_true, decide_eq_true_eq, and_assoc]

theorem slotsOverlap_comm (e f : Word) : slotsOverlap e f = slotsOverlap f e := Bool.and_comm _ _

/-- Two slots overlap as their offsets and widths say. -/
theorem slotsOverlap_or_valid (e f : Word) : slotsOverlap (e ||| 1) f = slotsOverlap e f := by
  obtain ⟨-, -, -, -, hoff⟩ := entry_or_valid e
  rw [slotsOverlap, hoff, entryWidth_or_valid, slotsOverlap]

/-! ### Samples (R178) -/

theorem sampleValue_narrow_lt (b0 b1 b2 b3 : Byte) : (sampleValue false b0 b1 b2 b3).toNat < 2 ^ 24 := by
  have h : (sampleValue false b0 b1 b2 b3).toNat = b0.toNat * 2 ^ 16 + b1.toNat * 2 ^ 8 + b2.toNat := by
    simp only [sampleValue, Bool.false_eq_true, if_false, toNat_append_add, BitVec.toNat_ofNat]
    omega
  omega

/-- A sample of 24 bits (R365). -/
theorem topByte_eq_zero_iff (v : Word) : v.extractLsb' 24 8 = 0 ↔ v.toNat < 2 ^ 24 := by
  have := v.isLt
  rw [← BitVec.toNat_inj, BitVec.extractLsb'_toNat, Nat.shiftRight_eq_div_pow]
  simp only [BitVec.ofNat_eq_ofNat, BitVec.toNat_ofNat, Nat.zero_mod]
  omega

/-! ### Sound ports -/

/-- `Port.sound` of a port in use, clause by clause. -/
structure Port.usedSound (s : State) (q : Port) : Prop where
  entry : entrySound s.dir s.dim.toNat q.entry
  md : q.md.sound
  pfRoom : q.pf.length ≤ s.params.portDepth
  mqRoom : q.mq.length ≤ s.params.midiMsgDepth
  eqRoom : q.eq.length ≤ s.params.midiTxDepth
  noSamples : entryType q.entry = .midi → q.pf = []
  noCapture : isMidiPort .rx q.entry = false → q.mq = [] ∧ q.md = MidiDecoder.idle
  noPlayback : isMidiPort .tx q.entry = false → q.eq = []
  narrow : entryWide q.entry = false → ∀ v ∈ q.pf, v.toNat < 2 ^ 24
  legal : ∀ m ∈ q.mq, midiWordLegal m = true

theorem Port.sound_iff {s : State} {q : Port} : q.sound s ↔ q = Port.empty ∨ q.usedSound s := by
  refine or_congr_right ⟨?_, ?_⟩
  · rintro ⟨h1, h2, h3, h4, h5, h6, h7, h8, h9, h10⟩
    exact ⟨h1, h2, h3, h4, h5, h6, h7, h8, h9, h10⟩
  · rintro ⟨h1, h2, h3, h4, h5, h6, h7, h8, h9, h10⟩
    exact ⟨h1, h2, h3, h4, h5, h6, h7, h8, h9, h10⟩

theorem Port.usedSound.sound {s : State} {q : Port} (h : q.usedSound s) : q.sound s := Port.sound_iff.mpr (.inr h)

/-- A sound port with VALID set is in use, one with VALID clear is empty. -/
theorem Port.sound.used {s : State} {q : Port} (h : q.sound s) (hv : entryValid q.entry = true) : q.usedSound s := by
  refine (Port.sound_iff.mp h).resolve_left ?_
  rintro rfl
  cases hv

theorem Port.sound.eq_empty {s : State} {q : Port} (h : q.sound s) (hv : entryValid q.entry = false) :
    q = Port.empty := by
  refine (Port.sound_iff.mp h).resolve_right fun hused => ?_
  obtain ⟨hvalid, -⟩ := hused.entry
  exact absurd (hv.symm.trans hvalid) (by decide)

/-- Soundness looks at the parameters and at the stream's direction and dimension alone. -/
theorem Port.sound.congr {s t : State} {q : Port} (h : q.sound s) (hparams : t.params = s.params)
    (hdir : t.dir = s.dir) (hdim : t.dim = s.dim) : q.sound t := by
  rw [Port.sound, hparams, hdir, hdim]
  exact h

section
variable {s : State} {q : Port} (h : q.usedSound s)
include h

/-- Items taken from a queue's head leave the port sound. -/
theorem Port.usedSound.shrink {pf mq : List Word} {eq : List Byte} (hpf : pf <:+ q.pf) (hmq : mq <:+ q.mq)
    (heq : eq <:+ q.eq) : ({ q with pf := pf, mq := mq, eq := eq } : Port).usedSound s where
  entry := h.entry
  md := h.md
  pfRoom := hpf.length_le.trans h.pfRoom
  mqRoom := hmq.length_le.trans h.mqRoom
  eqRoom := heq.length_le.trans h.eqRoom
  noSamples hm := List.suffix_nil.mp (h.noSamples hm ▸ hpf)
  noCapture hm := ⟨List.suffix_nil.mp ((h.noCapture hm).1 ▸ hmq), (h.noCapture hm).2⟩
  noPlayback hm := List.suffix_nil.mp (h.noPlayback hm ▸ heq)
  narrow hw v hv := h.narrow hw v (hpf.subset hv)
  legal m hm := h.legal m (hmq.subset hm)

/-- Samples offered to an audio or control port. -/
theorem Port.usedSound.takeSamples (htype : entryType q.entry ≠ .midi) {vs : List Word}
    (hvs : entryWide q.entry = false → ∀ v ∈ vs, v.toNat < 2 ^ 24) :
    (q.takeSamples s.params.portDepth vs).usedSound s :=
  { h with
    pfRoom := offered_length_le _ _ _ h.pfRoom
    noSamples := fun hm => absurd hm htype
    narrow := fun hw v hv => (mem_offered hv).elim (h.narrow hw v) (hvs hw v) }

/-- Bytes fed to the decoder of a MIDI capture port. -/
theorem Port.usedSound.takeMidi (hmidi : isMidiPort .rx q.entry = true) (bs : List Byte) :
    (q.takeMidi s.params.midiMsgDepth bs).usedSound s := by
  obtain ⟨hmd, hmsgs⟩ := feedBytes_sound h.md bs
  exact { h with
    md := hmd
    mqRoom := offered_length_le _ _ _ h.mqRoom
    noCapture := fun hm => absurd (hmidi.symm.trans hm) (by decide)
    legal := fun m hm => (mem_offered hm).elim (h.legal m) (hmsgs m) }

/-- Bytes appended to the encoder queue of a MIDI playback port with room for them. -/
theorem Port.usedSound.append_eq (hmidi : isMidiPort .tx q.entry = true) {bs : List Byte}
    (hroom : q.eq.length + bs.length ≤ s.params.midiTxDepth) :
    ({ q with eq := q.eq ++ bs } : Port).usedSound s :=
  { h with
    eqRoom := List.length_append.trans_le hroom
    noPlayback := fun hm => absurd (hmidi.symm.trans hm) (by decide) }

end

/-! ### The port table -/

/-- What the port table's invariant looks at. -/
structure PortTable where
  params : Params
  closed : Prop
  dir : Direction
  dim : BitVec 8
  ports : Vector Port 64

def State.portTable (s : State) : PortTable :=
  { params := s.params, closed := s.lc = .closed, dir := s.dir, dim := s.dim, ports := s.ports }

/-- The port tables of `s` and `t` are the same. -/
def sameTable (s t : State) : Prop := t.portTable = s.portTable

/-- `t` has the stream and the entries of `s`, and every port that was sound still is: only queues and decoders move. -/
structure KeepsTable (s t : State) : Prop where
  params : t.params = s.params
  closed : t.lc = .closed ↔ s.lc = .closed
  dir : t.dir = s.dir
  dim : t.dim = s.dim
  entry : ∀ p : Fin 64, t.ports[p].entry = s.ports[p].entry
  sound : ∀ p : Fin 64, s.ports[p].sound s → t.ports[p].sound t

theorem sameTable.keepsTable {s t : State} (h : sameTable s t) : KeepsTable s t := by
  simp only [sameTable, State.portTable, PortTable.mk.injEq, eq_iff_iff] at h
  obtain ⟨hparams, hclosed, hdir, hdim, hports⟩ := h
  exact ⟨hparams, hclosed, hdir, hdim, fun p => by rw [hports], fun p hp => hports ▸ hp.congr hparams hdir hdim⟩

theorem KeepsTable.refl (s : State) : KeepsTable s s := sameTable.keepsTable rfl

theorem KeepsTable.trans {s t u : State} (h : KeepsTable s t) (k : KeepsTable t u) : KeepsTable s u :=
  ⟨k.params.trans h.params, k.closed.trans h.closed, k.dir.trans h.dir, k.dim.trans h.dim,
    fun p => (k.entry p).trans (h.entry p), fun p hp => k.sound p (h.sound p hp)⟩

theorem refusedAs.keepsTable {s t : State} (h : refusedAs s t) : KeepsTable s t := by
  obtain ⟨e, -, rfl⟩ := h
  exact sameTable.keepsTable rfl

/-- A port set anew with its entry, in a way that keeps it sound if its VALID bit is set. -/
theorem keepsTable_setPort {s : State} {p : Fin 64} {q : Port} (hentry : q.entry = s.ports[p].entry)
    (hvalid : entryValid s.ports[p].entry = true) (hq : s.ports[p].usedSound s → q.usedSound s) :
    KeepsTable s (s.setPort p q) := by
  refine ⟨rfl, Iff.rfl, rfl, rfl, fun r => ?_, fun r hr => ?_⟩ <;> rw [State.setPort_port] <;> split
  · subst r
    exact hentry
  · rfl
  · subst r
    exact (hq (hr.used hvalid)).sound.congr rfl rfl rfl
  · exact hr.congr rfl rfl rfl

/-- Items taken from the heads of a valid port's queues. -/
theorem keepsTable_shrink {s : State} {p : Fin 64} {pf mq : List Word} {eq : List Byte}
    (hvalid : entryValid s.ports[p].entry = true) (hpf : pf <:+ s.ports[p].pf) (hmq : mq <:+ s.ports[p].mq)
    (heq : eq <:+ s.ports[p].eq) : KeepsTable s (s.setPort p { s.ports[p] with pf := pf, mq := mq, eq := eq }) :=
  keepsTable_setPort rfl hvalid fun hq => hq.shrink hpf hmq heq

/-- A table of which only queues and decoders move stays sound: an unused port stays empty, and slots are by the entries. -/
theorem KeepsTable.portsSound {s t : State} (h : KeepsTable s t) (hs : s.portsSound) : t.portsSound := by
  obtain ⟨hsound, hempty, hdisjoint⟩ := hs
  have hsound' : ∀ p : Fin 64, t.ports[p].sound t := fun p => h.sound p (hsound p)
  refine ⟨hsound', fun p hp => (hsound' p).eq_empty ?_, fun hdir p q hpq => ?_⟩
  · rw [h.closed, h.params] at hp
    rw [h.entry, hempty p hp]
    rfl
  · rw [h.entry, h.entry]
    exact hdisjoint (h.dir.symm.trans hdir) p q hpq

/-! ### The table's moves -/

/-- What a request makes of the port table. -/
inductive TableMove (s t : State) : Prop
  | keeps (h : KeepsTable s t)
  /-- ADD_PORT (R362). -/
  | adds (p : Fin 64) (e : Word) (hlc : s.lc ≠ .closed) (hp : p.val < s.params.nPorts) (he : s.entryAdmitted p e)
    (h : sameTable (s.setPort p { Port.empty with entry := e ||| 1 }) t)
  /-- REMOVE_PORT (R363). -/
  | removes (p : Fin 64) (h : sameTable (s.setPort p Port.empty) t)
  /-- OPEN, CLOSE, INIT without the RAM it asks for, and the hardware reset (R331, R337, R500). -/
  | clears (h : t.ports = Vector.replicate 64 Port.empty)

/-- The port ADD_PORT makes of an admitted entry (R362). -/
theorem addedPort_usedSound {s : State} {p : Fin 64} {e : Word} (he : s.entryAdmitted p e) :
    ({ Port.empty with entry := e ||| 1 } : Port).usedSound s := by
  obtain ⟨hzero, htype, hdir, hmidi, hfits, -⟩ := he
  obtain ⟨hv, ht, hd, hw, ho⟩ := entry_or_valid e
  have hclear : (e ||| 1) &&& (entryMustBeZero ^^^ 1) = 0 := by
    have hmask : entryMustBeZero ^^^ 1 = entryMustBeZero &&& (entryMustBeZero ^^^ 1) := by decide
    rw [BitVec.and_or_distrib_right, hmask, ← BitVec.and_assoc, hzero]
    decide
  refine ⟨⟨hv, hclear, ht ▸ htype, hd.trans hdir, ?_, ?_⟩, MidiDecoder.idle_sound, Nat.zero_le _, Nat.zero_le _,
    Nat.zero_le _, fun _ => rfl, fun _ => ⟨rfl, rfl⟩, fun _ => rfl, fun _ => by simp [Port.empty],
    by simp [Port.empty]⟩
  · rw [ht, hw]
    exact hmidi
  · rw [ho, entryWidth_or_valid]
    exact hfits

/-- ADD_PORT's check 7: in a transmit stream no other valid port's slot overlaps the new one (R362). -/
theorem State.entryAdmitted.disjoint {s : State} {p : Fin 64} {e : Word} (he : s.entryAdmitted p e)
    (hdir : s.dir = .tx) {q : Fin 64} (hq : q.val < s.params.nPorts) (hpq : q ≠ p)
    (hv : entryValid s.ports[q].entry = true) : slotsOverlap e s.ports[q].entry = false := by
  obtain ⟨-, -, -, -, -, hnone⟩ := he
  have hnone := hnone hdir
  rw [State.overlapsOther, List.any_eq_false] at hnone
  have hnone := hnone q (List.mem_finRange q)
  rwa [decide_eq_true hq, decide_eq_true hpq, hv, Bool.true_and, Bool.true_and, Bool.true_and, Bool.not_eq_true] at hnone

/-- A valid port of a sound table exists. -/
theorem State.portsSound.lt_nPorts {s : State} (hs : s.portsSound) {p : Fin 64}
    (hv : entryValid s.ports[p].entry = true) : p.val < s.params.nPorts := by
  obtain ⟨-, hempty, -⟩ := hs
  by_contra hlt
  rw [hempty p (.inr (Nat.not_lt.mp hlt))] at hv
  cases hv

theorem State.portsSound.used {s : State} (hs : s.portsSound) {p : Fin 64}
    (hv : entryValid s.ports[p].entry = true) : s.ports[p].usedSound s :=
  (hs.1 p).used hv

theorem portsSound_addPort {s : State} {p : Fin 64} {e : Word} (hs : s.portsSound) (hlc : s.lc ≠ .closed)
    (hp : p.val < s.params.nPorts) (he : s.entryAdmitted p e) :
    (s.setPort p { Port.empty with entry := e ||| 1 }).portsSound := by
  have hexists := @hs.lt_nPorts
  obtain ⟨hsound, hempty, hdisjoint⟩ := hs
  refine ⟨fun r => ?_, fun r hr => ?_, fun hdir r q hrq hr hq => ?_⟩
  · rw [State.setPort_port]
    split
    · exact (addedPort_usedSound he).sound.congr rfl rfl rfl
    · exact (hsound r).congr rfl rfl rfl
  · rw [State.setPort_port, if_neg]
    · exact hempty r hr
    · rintro rfl
      exact hr.elim hlc (Nat.not_le.mpr hp)
  · rw [State.setPort_port] at hr hq ⊢
    rw [State.setPort_port]
    split_ifs at hr hq ⊢ with hpr hpq hpq
    · exact absurd (hpr.symm.trans hpq) hrq
    · rw [slotsOverlap_or_valid]
      exact he.disjoint hdir (hexists hq) (Ne.symm hpq) hq
    · rw [slotsOverlap_comm, slotsOverlap_or_valid]
      exact he.disjoint hdir (hexists hr) (Ne.symm hpr) hr
    · exact hdisjoint hdir r q hrq hr hq

theorem portsSound_removePort {s : State} (hs : s.portsSound) (p : Fin 64) :
    (s.setPort p Port.empty).portsSound := by
  obtain ⟨hsound, hempty, hdisjoint⟩ := hs
  refine ⟨fun r => ?_, fun r hr => ?_, fun hdir r q hrq hr hq => ?_⟩
  · rw [State.setPort_port]
    split
    · exact .inl rfl
    · exact (hsound r).congr rfl rfl rfl
  · rw [State.setPort_port, hempty r hr, ite_self]
  · rw [State.setPort_port] at hr hq ⊢
    rw [State.setPort_port]
    split_ifs at hr hq ⊢
    · cases hr
    · cases hr
    · cases hq
    · exact hdisjoint hdir r q hrq hr hq

theorem portsSound_of_cleared {s : State} (h : s.ports = Vector.replicate 64 Port.empty) : s.portsSound := by
  have hempty : ∀ p : Fin 64, s.ports[p] = Port.empty := fun p => by simp [h]
  refine ⟨fun p => .inl (hempty p), fun p _ => hempty p, fun _ p q _ hp => ?_⟩
  rw [hempty p] at hp
  cases hp

/-- Every move keeps the table sound. -/
theorem TableMove.keeps_portsSound {s t : State} (h : TableMove s t) (hs : s.portsSound) : t.portsSound := by
  cases h with
  | keeps h => exact h.portsSound hs
  | adds p e hlc hp he h => exact h.keepsTable.portsSound (portsSound_addPort hs hlc hp he)
  | removes p h => exact h.keepsTable.portsSound (portsSound_removePort hs p)
  | clears h => exact portsSound_of_cleared h

end Sys2Proof.Machine
end

section
/-! PROOFS. The move of the port table that each operation, instruction and step makes. For O59. -/

namespace Sys2Proof.Machine

/-! ### SP_DEMUX (R366, R368, R369) -/

theorem State.portEnabled_valid {s : State} {p : Fin 64} (h : s.portEnabled p = true) :
    p.val < s.params.nPorts ∧ entryValid s.ports[p].entry = true := by
  simp only [State.portEnabled, State.entryEnabled, Bool.and_eq_true, decide_eq_true_eq] at h
  obtain ⟨hp, hv, -⟩ := h
  exact ⟨hp, hv⟩

theorem KeepsTable.takenIn {s : State} {p : Fin 64} {q : Port} (a b : Nat) (h : KeepsTable s (s.setPort p q)) :
    KeepsTable s (s.takenIn p q a b) :=
  h.trans (sameTable.keepsTable rfl)

theorem keepsTable_pushSample {s : State} {p : Fin 64} {v : Word} (hv : entryValid s.ports[p].entry = true)
    (htype : entryType s.ports[p].entry ≠ .midi)
    (hnarrow : entryWide s.ports[p].entry = false → v.toNat < 2 ^ 24) : KeepsTable s (s.pushSample p v) := by
  rw [State.pushSample_eq]
  refine .takenIn _ _ (keepsTable_setPort rfl hv fun hq => hq.takeSamples htype fun hw x hx => ?_)
  rw [List.mem_singleton.mp hx]
  exact hnarrow hw

theorem keepsTable_midiFeed {s : State} {p : Fin 64} (hmidi : isMidiPort .rx s.ports[p].entry = true) (b : Byte) :
    KeepsTable s (s.midiFeed p b) := by
  rw [State.midiFeed_eq]
  exact .takenIn _ _ (keepsTable_setPort rfl (isMidiPort_iff.mp hmidi).1 fun hq => hq.takeMidi hmidi [b])

theorem keepsTable_midiSlot {s : State} {p : Fin 64} (hmidi : isMidiPort .rx s.ports[p].entry = true)
    (m0 m1 m2 m3 : Byte) : KeepsTable s (s.midiSlot p m0 m1 m2 m3) := by
  rw [State.midiSlot_eq]
  exact .takenIn _ _ (keepsTable_setPort rfl (isMidiPort_iff.mp hmidi).1 fun hq => hq.takeMidi hmidi _)

/-- In a table whose valid ports have the stream's direction, an enabled port takes its slot of a received block. -/
theorem keepsTable_extractPort {s : State} {p : Fin 64} (hrx : s.dir = .rx) (hs : s.ports[p].sound s)
    (hen : s.portEnabled p = true) (base : Nat) : KeepsTable s (s.extractPort base p) := by
  obtain ⟨-, hv⟩ := State.portEnabled_valid hen
  have hnarrow : ∀ b0 b1 b2 b3, entryWide s.ports[p].entry = false →
      (sampleValue (entryWide s.ports[p].entry) b0 b1 b2 b3).toNat < 2 ^ 24 := by
    intro b0 b1 b2 b3 hw
    rw [hw]
    exact sampleValue_narrow_lt b0 b1 b2 b3
  unfold State.extractPort
  dsimp only
  cases htype : entryType s.ports[p].entry with
  | audio => exact keepsTable_pushSample hv (by rw [htype]; decide) (hnarrow _ _ _ _)
  | control => exact keepsTable_pushSample hv (by rw [htype]; decide) (hnarrow _ _ _ _)
  | midi =>
    obtain ⟨-, -, -, hdir, -⟩ := (hs.used hv).entry
    exact keepsTable_midiSlot (isMidiPort_iff.mpr ⟨hv, htype, hdir.trans hrx⟩) _ _ _ _
  | reserved => exact .refl s

/-- What the loop of SP_DEMUX keeps: the table, as long as it was sound in a receive stream. -/
theorem keepsTable_demuxBlocks {s : State} (hrx : s.dir = .rx) (hs : ∀ p : Fin 64, s.ports[p].sound s) (B N : Nat) :
    KeepsTable s (s.demuxBlocks B N) := by
  refine State.forBlocks_keeps (KeepsTable s) _ (fun t k ht => ?_) s N (.refl s)
  refine State.forPorts_keeps (KeepsTable s) _ (fun u p hu => ?_) t ht
  split
  · next hen => exact hu.trans (keepsTable_extractPort (hu.dir.trans hrx) (hu.sound p (hs p)) hen _)
  · exact hu

theorem State.noteTimestamp_sameTable (s : State) (y : BitVec 16) (o : Option Word) :
    sameTable s (s.noteTimestamp y o) := by
  rw [State.noteTimestamp_frame]
  rfl

theorem keepsTable_demuxPacket {s : State} (hrx : s.dir = .rx) (hs : ∀ p : Fin 64, s.ports[p].sound s) (N : Nat) :
    KeepsTable s (s.demuxPacket N) := by
  have hnote := (s.noteTimestamp_sameTable (cipSyt s.lastCip1) (s.demuxTimestamp (cipSyt s.lastCip1))).keepsTable
  have hloop := keepsTable_demuxBlocks (hnote.dir.trans hrx) (fun p => hnote.sound p (hs p)) (4 * s.dim.toNat) N
  exact (hnote.trans hloop).trans (sameTable.keepsTable rfl)

/-! ### SP_MUX (R370, R371) -/

theorem keepsTable_fillSample (s : State) (p : Fin 64) (a : Nat) : KeepsTable s (s.fillSample p a) := by
  unfold State.fillSample
  dsimp only
  split
  · next hen =>
    split
    · next v rest hpf =>
      have htaken := keepsTable_shrink (State.portEnabled_valid hen).2 (hpf.symm ▸ List.suffix_cons v rest)
        (List.suffix_refl _) (List.suffix_refl _)
      exact htaken.trans (sameTable.keepsTable rfl)
    · exact sameTable.keepsTable rfl
  · exact .refl s

theorem keepsTable_fillMidi (s : State) (p : Fin 64) (a : Nat) : KeepsTable s (s.fillMidi p a) := by
  unfold State.fillMidi
  dsimp only
  split
  · next b rest hen heq =>
    have htaken := keepsTable_shrink (State.portEnabled_valid hen).2 (List.suffix_refl _) (List.suffix_refl _)
      (heq.symm ▸ List.suffix_cons b rest)
    exact htaken.trans (sameTable.keepsTable rfl)
  · exact sameTable.keepsTable rfl

theorem keepsTable_fillSlot (s : State) (base : Nat) (p : Fin 64) : KeepsTable s (s.fillSlot base p) := by
  unfold State.fillSlot
  dsimp only
  split
  · exact keepsTable_fillSample ..
  · exact keepsTable_fillSample ..
  · exact keepsTable_fillMidi ..
  · exact .refl s

theorem keepsTable_muxBlocks (s : State) (B N : Nat) : KeepsTable s (s.muxBlocks B N) := by
  refine State.forBlocks_keeps (KeepsTable s) _ (fun t k ht => ?_) s N (.refl s)
  refine State.forPorts_keeps (KeepsTable s) _ (fun u p hu => ?_) t ht
  split
  · exact hu.trans (keepsTable_fillSlot ..)
  · exact hu

theorem keepsTable_muxPacket (s : State) (N : Nat) (y : BitVec 16) : KeepsTable s (s.muxPacket N y) := by
  have hheader : sameTable s ((s.writeTxb 0 (List.replicate (8 + N * (4 * s.dim.toNat)) 0)).writeTxb 0
    (s.muxHeader y)) := rfl
  exact (hheader.keepsTable.trans (keepsTable_muxBlocks _ (4 * s.dim.toNat) N)).trans (sameTable.keepsTable rfl)

/-! ### Instructions -/

theorem State.gotPacket_sameTable (s : State) : sameTable s s.gotPacket := by
  simp [sameTable, State.portTable, State.gotPacket, State.fetchPacket]

/-- A meaning that is refused, or keeps the table, moves only queues and decoders. -/
theorem TableMove.of_refused_or {s t : State} {P : Prop} (h : refusedAs s t ∨ P) (hP : P → KeepsTable s t) :
    TableMove s t :=
  .keeps (h.elim refusedAs.keepsTable hP)

theorem sameButResults.sameTable {s t : State} (h : sameButResults s t) : sameTable s t := by
  rw [h]
  rfl

theorem ProducedOnly.sameTable {s t : State} (h : ProducedOnly s t) : sameTable s t := by
  rw [h]
  rfl

theorem ConsumedOnly.sameTable {s t : State} (h : ConsumedOnly s t) : sameTable s t := by
  rw [h]
  rfl

/-- A lifecycle change between states in which the stream exists. -/
theorem keepsTable_of_lc {s t : State} {k l : Lifecycle} (hs : s.lc = k) (ht : t.lc = l) (hk : k ≠ .closed)
    (hl : l ≠ .closed) (h : t.portTable = { s.portTable with closed := t.portTable.closed }) : KeepsTable s t := by
  have hopen : t.portTable.closed = s.portTable.closed := by simp only [State.portTable, hs, ht, hk, hl]
  rw [hopen] at h
  exact sameTable.keepsTable h

theorem execPortRead_keepsTable {s t : State} (h : execPortRead s = .next t) : KeepsTable s t := by
  rcases execPortRead_cases h with h | ⟨-, p, v, rest, hport, hpf, rfl⟩
  · exact h.keepsTable
  · obtain ⟨hv, -, -⟩ := isSamplePort_iff.mp hport
    have htaken := keepsTable_shrink hv (hpf.symm ▸ List.suffix_cons v rest) (List.suffix_refl _) (List.suffix_refl _)
    exact htaken.trans (sameTable.keepsTable rfl)

theorem execPortWrite_keepsTable {s t : State} (h : execPortWrite s = .next t) : KeepsTable s t := by
  rcases execPortWrite_cases h with h | ⟨-, p, v, hport, hnarrow, hroom, rfl⟩
  · exact h.keepsTable
  · obtain ⟨hv, htype, -⟩ := isSamplePort_iff.mp hport
    have hpush := keepsTable_pushSample hv htype fun hw => (topByte_eq_zero_iff v).mp (hnarrow hw)
    rw [State.pushSample, if_pos hroom] at hpush
    exact hpush.trans (sameTable.keepsTable rfl)

theorem execMidiDecode_keepsTable {s t : State} (h : execMidiDecode s = .next t) : KeepsTable s t := by
  rcases execMidiDecode_cases h with h | ⟨-, p, b, v, w, -, hport, rfl⟩
  · exact h.keepsTable
  · exact (keepsTable_midiFeed hport b).trans (sameTable.keepsTable rfl)

theorem execMidiRead_keepsTable {s t : State} (h : execMidiRead s = .next t) : KeepsTable s t := by
  rcases execMidiRead_cases h with h | ⟨-, p, m, rest, hport, hmq, rfl⟩
  · exact h.keepsTable
  · obtain ⟨hv, -, -⟩ := isMidiPort_iff.mp hport
    have htaken := keepsTable_shrink hv (List.suffix_refl _) (hmq.symm ▸ List.suffix_cons m rest) (List.suffix_refl _)
    exact htaken.trans (sameTable.keepsTable rfl)

theorem execMidiEncode_keepsTable {s t : State} (h : execMidiEncode s = .next t) : KeepsTable s t := by
  rcases execMidiEncode_cases h with h | ⟨-, p, m, hport, -, hroom, rfl⟩
  · exact h.keepsTable
  · obtain ⟨hv, -, -⟩ := isMidiPort_iff.mp hport
    have hlen : (midiBytes m).length ≤ midiLen m := List.length_take_le ..
    have hqueued : KeepsTable s (s.setPort p { s.ports[p] with eq := s.ports[p].eq ++ midiBytes m }) :=
      keepsTable_setPort rfl hv fun hq => hq.append_eq hport (by omega)
    exact hqueued.trans (sameTable.keepsTable rfl)

theorem execInit_tableMove {s t : State} (h : execInit s = .next t) : TableMove s t := by
  rcases execInit_cases h with h | ⟨-, rfl⟩ | ⟨hlc, hdr, cap, maxpkt, -, -, rfl⟩
  · exact .keeps h.keepsTable
  · exact .clears rfl
  · exact .keeps (keepsTable_of_lc (l := .ready) hlc rfl (by decide) (by decide) rfl)

theorem execSpDemux_tableMove {s t : State} (hs : s.portsSound) (h : execSpDemux s = .next t) : TableMove s t := by
  rcases execSpDemux_cases h with h | ⟨-, hrx, -, ⟨e, -, rfl | rfl⟩ | ⟨N, -, rfl⟩⟩
  · exact .keeps h.keepsTable
  · exact .keeps (sameTable.keepsTable rfl)
  · exact .keeps (sameTable.keepsTable rfl)
  · have hparsed : KeepsTable s s.parseHeader := sameTable.keepsTable rfl
    have hpacket := keepsTable_demuxPacket (s := s.parseHeader) hrx (fun p => hparsed.sound p (hs.1 p)) N
    exact .keeps ((hparsed.trans hpacket).trans (sameTable.keepsTable rfl))

/-- Every instruction that has a next state makes one of the moves. -/
theorem exec_tableMove {i : Instr} {s t : State} (hs : s.portsSound) (h : exec i s = .next t) : TableMove s t := by
  cases i with
  | nop => exact .keeps (succeeds_next.mp h ▸ sameTable.keepsTable rfl)
  | openStream =>
    rcases execOpenStream_cases h with h | ⟨-, ch, d, dim, -, rfl⟩
    · exact .keeps h.keepsTable
    · exact .clears rfl
  | init => exact execInit_tableMove h
  | start =>
    refine .of_refused_or (execStart_cases h) ?_
    rintro ⟨hlc, rfl⟩
    rcases hlc with hlc | hlc
    · exact keepsTable_of_lc (l := .running) hlc rfl (by decide) (by decide) rfl
    · exact keepsTable_of_lc (l := .running) hlc rfl (by decide) (by decide) rfl
  | stop =>
    refine .of_refused_or (execStop_cases h) ?_
    rintro ⟨hlc, rfl⟩
    exact keepsTable_of_lc (l := .stopped) hlc rfl (by decide) (by decide) rfl
  | close =>
    rcases execClose_cases h with h | ⟨-, rfl⟩
    · exact .keeps h.keepsTable
    · exact .clears rfl
  | resume => exact .of_refused_or (execResume_cases h) fun ⟨_, _, ht⟩ => ht ▸ sameTable.keepsTable rfl
  | setConfig => exact .of_refused_or (execSetConfig_cases h) fun ⟨_, _, ht⟩ => ht ▸ sameTable.keepsTable rfl
  | addPort =>
    rcases execAddPort_cases h with h | ⟨hlc, p, e, hp, he, rfl⟩
    · exact .keeps h.keepsTable
    · exact .adds p e hlc hp he rfl
  | removePort =>
    rcases execRemovePort_cases h with h | ⟨-, p, rfl⟩
    · exact .keeps h.keepsTable
    · exact .removes p rfl
  | rbAdd =>
    rcases execRbAdd_cases h with h | ⟨-, rfl⟩ | ⟨-, -, -, len, -, -, rfl⟩
    · exact .keeps h.keepsTable
    · exact .keeps (sameTable.keepsTable rfl)
    · exact .keeps (sameTable.keepsTable rfl)
  | rbGet =>
    rcases execRbGet_cases h with h | ⟨-, rfl⟩ | ⟨-, -, -, rfl⟩
    · exact .keeps h.keepsTable
    · exact .keeps (sameTable.keepsTable rfl)
    · exact .keeps s.gotPacket_sameTable.keepsTable
  | rbFillPackets => exact .of_refused_or (execRbFillPackets_cases h) fun ⟨_, ht⟩ => ht ▸ sameTable.keepsTable rfl
  | rbFillPayload => exact .of_refused_or (execRbFillPayload_cases h) fun ⟨_, ht⟩ => ht ▸ sameTable.keepsTable rfl
  | spDemux => exact execSpDemux_tableMove hs h
  | spMux =>
    refine .of_refused_or (execSpMux_cases h) ?_
    rintro ⟨-, -, n, y, v, -, rfl⟩
    exact (keepsTable_muxPacket s n.toNat y).trans (sameTable.keepsTable rfl)
  | portRead => exact .keeps (execPortRead_keepsTable h)
  | portWrite => exact .keeps (execPortWrite_keepsTable h)
  | midiDecode => exact .keeps (execMidiDecode_keepsTable h)
  | midiRead => exact .keeps (execMidiRead_keepsTable h)
  | midiEncode => exact .keeps (execMidiEncode_keepsTable h)
  | ctTicksToCycles => exact .keeps (execCtTicksToCycles_cases h).sameTable.keepsTable
  | ctCyclesToTicks => exact .of_refused_or (execCtCyclesToTicks_cases h) fun ht => ht.sameTable.keepsTable
  | ctReconstruct => exact .of_refused_or (execCtReconstruct_cases h) fun ht => ht.sameTable.keepsTable
  | ctToTicks =>
    refine .of_refused_or (execCtToTicks_cases h) fun ⟨c, ht⟩ => KeepsTable.trans ?_ ht.sameTable.keepsTable
    exact sameTable.keepsTable rfl
  | ctFromTicks => exact .keeps (execCtFromTicks_cases h).sameTable.keepsTable
  | ctSytCheck =>
    refine .of_refused_or (execCtSytCheck_cases h) fun ⟨y, ts, ht⟩ => KeepsTable.trans ?_ ht.sameTable.keepsTable
    rw [State.sytCheck_frame]
    exact sameTable.keepsTable rfl
  | isoPut data channel tag sy cycle dropped ctr =>
    rcases execIsoPut_frame h with rfl | ⟨-, hf⟩
    · exact .keeps (sameTable.keepsTable rfl)
    · exact .keeps hf.sameTable.keepsTable
  | isoGet cycle dropped maxLength =>
    rcases execIsoGet_frame (cycle := cycle) h with rfl | ⟨-, hf⟩
    · exact .keeps (sameTable.keepsTable rfl)
    · exact .keeps hf.sameTable.keepsTable
  | isoBusReset =>
    rcases execIsoBusReset_cases h with rfl | ⟨-, rfl⟩ <;> exact .keeps (sameTable.keepsTable rfl)

/-! ### Requests and steps -/

theorem State.sync_sameTable (s : State) (x : CdcReg) : sameTable s (s.sync x) := by
  cases x with
  | cntOverflow | cntUnderflow =>
    unfold State.sync
    dsimp only
    split <;> rfl
  | _ => rfl

theorem State.writeCsr_sameTable {s t : State} {r : Csr} {v : Word} (h : s.writeCsr r v = some t) : sameTable s t := by
  rcases State.writeCsr_cases h with ⟨a, rfl⟩ | ⟨-, rfl⟩ | ⟨-, -, rfl⟩ | ⟨-, -, rfl⟩ | ⟨a, -, rfl⟩ <;> rfl

/-- A host write moves the table by the command that it runs, if it runs one. -/
theorem State.hostWrite_portsSound {s t : State} {bits off : Nat} {v : Word} (hs : s.portsSound)
    (h : s.hostWrite bits off v = .next t) : t.portsSound := by
  rcases State.hostWrite_cases h with rfl | ⟨i, -, h⟩ | rfl | ⟨r, u, -, hu, rfl⟩
  · exact (sameTable.keepsTable rfl : KeepsTable s _).portsSound hs
  · have hstored : (State.answer { s with cmd := v } .written).portsSound :=
      (sameTable.keepsTable rfl : KeepsTable s _).portsSound hs
    exact (exec_tableMove hstored h).keeps_portsSound hstored
  · exact (sameTable.keepsTable rfl : KeepsTable s _).portsSound hs
  · exact ((State.writeCsr_sameTable hu).keepsTable.trans (sameTable.keepsTable rfl)).portsSound hs

theorem State.perform_portsSound {s t : State} {q : Request} (hs : s.portsSound) (h : s.perform q = .next t) :
    t.portsSound := by
  cases q with
  | hostRead bits off =>
    obtain ⟨r, hr⟩ := s.hostRead_cases bits off
    cases h
    rw [hr]
    exact (sameTable.keepsTable rfl : KeepsTable s _).portsSound hs
  | hostWrite bits off v => exact State.hostWrite_portsSound hs h
  | iso r =>
    obtain ⟨i, -, h⟩ := State.isoTransaction_cases h
    exact (exec_tableMove hs h).keeps_portsSound hs
  | sync x =>
    cases h
    exact (s.sync_sameTable x).keepsTable.portsSound hs
  | hwReset =>
    cases h
    exact portsSound_of_cleared rfl

end Sys2Proof.Machine
end

section
open Sys2Proof Sys2Proof.Machine

/-- Settles O59: what a request does to the port table is one of the table's moves, and each move keeps it sound. -/
theorem stepKeepsThePortsSound : Obligations.StepKeepsThePortsSound := by
  intro s t hs h
  rcases step_cases h with ⟨-, rfl⟩ | ⟨q, rest, -, h⟩
  · exact hs
  · have hbegun : (s.begin rest).portsSound := (sameTable.keepsTable rfl : KeepsTable s _).portsSound hs
    exact State.perform_portsSound hbegun h

end

section
/-! PROOFS. The loops over the data blocks and the ports, as rounds that each port makes by itself: what holds of one port's
next round holds of the loop, whatever the other ports do. For O20 and O22. -/

namespace Sys2Proof.Machine

section
variable {I : (Fin 64 → Nat) → State → Prop} {f : State → Fin 64 → State} {nPorts k : Nat}

/-- A pass over different ports, each of which is at round `k`, takes each of them to round `k + 1`. -/
theorem foldl_rounds
    (hstep : ∀ n t p, n p = k → I n t → I (Function.update n p (k + 1)) (if p.val < nPorts then f t p else t))
    (l : List (Fin 64)) (hl : l.Nodup) {n : Fin 64 → Nat} {t : State} (hn : ∀ p ∈ l, n p = k) (h : I n t) :
    I (fun p => if p ∈ l then k + 1 else n p) (l.foldl (fun t p => if p.val < nPorts then f t p else t) t) := by
  induction l generalizing n t with
  | nil => simpa using h
  | cons p l ih =>
    obtain ⟨hp, hl⟩ := List.nodup_cons.mp hl
    have hrest : ∀ r ∈ l, Function.update n p (k + 1) r = k := by
      intro r hr
      rw [Function.update_of_ne (by rintro rfl; exact hp hr)]
      exact hn r (List.mem_cons_of_mem p hr)
    have hpass := ih hl hrest (hstep n t p (hn p List.mem_cons_self) h)
    have hcount : (fun r => if r ∈ l then k + 1 else Function.update n p (k + 1) r) =
        fun r => if r ∈ p :: l then k + 1 else n r := by
      funext r
      by_cases hr : r = p
      · subst r
        simp
      · simp [hr]
    rwa [hcount] at hpass

theorem State.forPorts_round (hparams : ∀ n t, I n t → t.params.nPorts = nPorts)
    (hstep : ∀ n t p, n p = k → I n t → I (Function.update n p (k + 1)) (if p.val < nPorts then f t p else t))
    {t : State} (h : I (fun _ => k) t) : I (fun _ => k + 1) (t.forPorts f) := by
  have hpass := foldl_rounds hstep (List.finRange 64) (List.nodup_finRange 64) (fun _ _ => rfl) h
  simp only [List.mem_finRange, if_true] at hpass
  rw [State.forPorts, hparams _ t h]
  exact hpass

/-- All rounds of all ports: `N` data blocks. -/
theorem State.forBlocks_rounds {f : Nat → State → Fin 64 → State} {N : Nat}
    (hparams : ∀ n t, I n t → t.params.nPorts = nPorts)
    (hstep : ∀ k n t p, k < N → n p = k → I n t →
      I (Function.update n p (k + 1)) (if p.val < nPorts then f k t p else t))
    {s : State} (h : I (fun _ => 0) s) : I (fun _ => N) (s.forBlocks N fun t k => t.forPorts (f k)) := by
  have hblocks : ∀ M, M ≤ N → I (fun _ => M) (s.forBlocks M fun t k => t.forPorts (f k)) := by
    intro M
    induction M with
    | zero => exact fun _ => h
    | succ M ih =>
      intro hM
      have hround := State.forPorts_round hparams (fun n t p => hstep M n t p hM) (ih (Nat.le_of_succ_le hM))
      rw [State.forBlocks, List.range_succ, List.foldl_append]
      exact hround
  exact hblocks N le_rfl

end

/-- A sum over the ports after one port's round: it grows by what that round counts. -/
theorem sum_update_add {G : Nat → Fin 64 → Nat} {n : Fin 64 → Nat} {p : Fin 64} {m a : Nat}
    (h : G m p = G (n p) p + a) :
    ∑ r, G (Function.update n p m r) r = (∑ r, G (n r) r) + a := by
  have hothers : ∑ r ∈ Finset.univ.erase p, G (Function.update n p m r) r = ∑ r ∈ Finset.univ.erase p, G (n r) r :=
    Finset.sum_congr rfl fun r hr => by rw [Function.update_of_ne (Finset.ne_of_mem_erase hr)]
  rw [← Finset.add_sum_erase _ _ (Finset.mem_univ p), ← Finset.add_sum_erase _ (fun r => G (n r) r) (Finset.mem_univ p),
    hothers, Function.update_self, h]
  omega

end Sys2Proof.Machine
end

section
/-! PROOFS. SP_DEMUX port by port (R366, R368, R369): what each data block adds to a port taken by itself, and the state
after the loop as one explicit update. For O20 and O19. -/

namespace Sys2Proof.Machine

/-! ### One port by itself -/

/-- What `N` data blocks make of port `p` and count for it. -/
def State.captures (s : State) (N : Nat) (p : Fin 64) (q : Port) (drops discards : Nat) : Prop :=
  s.capturedPort N p = q ∧ s.capturedDrops N p = drops ∧ s.capturedDiscards N p = discards

theorem State.captures_of_disabled {s : State} {p : Fin 64} (h : s.portEnabled p = false) (N : Nat) :
    s.captures N p s.ports[p] 0 0 := by
  simp only [State.captures, State.capturedPort, State.capturedDrops, State.capturedDiscards, h]
  simp

section
variable {s : State} {p : Fin 64} (hen : s.portEnabled p = true) (N : Nat)
include hen

theorem State.captures_of_reserved (htype : entryType s.ports[p].entry = .reserved) :
    s.captures N p s.ports[p] 0 0 := by
  simp only [State.captures, State.capturedPort, State.capturedDrops, State.capturedDiscards, hen, htype]
  simp

theorem State.captures_of_sample (htype : entryType s.ports[p].entry = .audio ∨ entryType s.ports[p].entry = .control) :
    s.captures N p (s.ports[p].takeSamples s.params.portDepth (s.capturedSamples N p))
      (turnedAway s.params.portDepth s.ports[p].pf (s.capturedSamples N p)) 0 := by
  have hlen : (s.capturedSamples N p).length = N := by simp [State.capturedSamples]
  simp only [State.captures, State.capturedPort, State.capturedDrops, State.capturedDiscards, hen, turnedAway, hlen]
  rcases htype with htype | htype <;> rw [htype] <;> exact ⟨rfl, rfl, rfl⟩

theorem State.captures_of_midi (htype : entryType s.ports[p].entry = .midi) :
    s.captures N p (s.ports[p].takeMidi s.params.midiMsgDepth (s.capturedMidi N p))
      (s.ports[p].midiTurnedAway s.params.midiMsgDepth (s.capturedMidi N p))
      ((feedBytes s.ports[p].md (s.capturedMidi N p)).2.2 + s.unknownLabels N p) := by
  simp only [State.captures, State.capturedPort, State.capturedDrops, State.capturedDiscards, hen, htype]
  exact ⟨rfl, rfl, rfl⟩

end

/-- No data block makes nothing of a port. -/
theorem State.captures_zero (s : State) (p : Fin 64) : s.captures 0 p s.ports[p] 0 0 := by
  cases hen : s.portEnabled p with
  | false => exact State.captures_of_disabled hen 0
  | true =>
    cases htype : entryType s.ports[p].entry with
    | audio => simpa [State.capturedSamples] using State.captures_of_sample hen 0 (.inl htype)
    | control => simpa [State.capturedSamples] using State.captures_of_sample hen 0 (.inr htype)
    | midi =>
      simpa [State.capturedMidi, State.unknownLabels, feedBytes] using State.captures_of_midi hen 0 htype
    | reserved => exact State.captures_of_reserved hen 0 htype

/-! ### One more data block -/

/-- The TXB byte of port `p`'s slot in data block `k` (R366, R368). -/
def State.slotAddress (s : State) (p : Fin 64) (k : Nat) : Nat := 8 + 4 * s.dim.toNat * k + entryOffset s.ports[p].entry

/-- The sample in a slot (R368, R178). -/
def State.slotSample (s : State) (p : Fin 64) (k : Nat) : Word :=
  sampleValue (entryWide s.ports[p].entry) (s.txbByte (s.slotAddress p k)) (s.txbByte (s.slotAddress p k + 1))
    (s.txbByte (s.slotAddress p k + 2)) (s.txbByte (s.slotAddress p k + 3))

/-- The MIDI bytes in a slot (R369). -/
def State.slotMidi (s : State) (p : Fin 64) (k : Nat) : List Byte :=
  slotMidiBytes (s.txbByte (s.slotAddress p k)) (s.txbByte (s.slotAddress p k + 1)) (s.txbByte (s.slotAddress p k + 2))
    (s.txbByte (s.slotAddress p k + 3))

section
variable (s : State) (p : Fin 64) (k : Nat)

theorem State.capturedSamples_eq (N : Nat) : s.capturedSamples N p = (List.range N).map (s.slotSample p) := rfl

theorem State.capturedSamples_succ : s.capturedSamples (k + 1) p = s.capturedSamples k p ++ [s.slotSample p k] := by
  rw [State.capturedSamples_eq, List.range_succ, List.map_append]
  rfl

theorem State.capturedMidi_succ : s.capturedMidi (k + 1) p = s.capturedMidi k p ++ s.slotMidi p k := by
  rw [State.capturedMidi, List.range_succ, List.flatMap_append, List.flatMap_singleton]
  rfl

theorem State.unknownLabels_succ :
    s.unknownLabels (k + 1) p = s.unknownLabels k p + if unknownLabel (s.txbByte (s.slotAddress p k)) then 1 else 0 := by
  rw [State.unknownLabels, List.range_succ, List.countP_append, List.countP_singleton]
  rfl

end

/-- What SP_DEMUX reads of a port's slots: its loop leaves TXB, the dimension and the entries as they are. -/
theorem sameButPorts.slots {s t : State} (h : sameButPorts s t) {p : Fin 64} (k : Nat)
    (hentry : t.ports[p].entry = s.ports[p].entry) :
    t.slotSample p k = s.slotSample p k ∧ t.slotMidi p k = s.slotMidi p k ∧
      t.txbByte (t.slotAddress p k) = s.txbByte (s.slotAddress p k) := by
  have hbyte : t.txbByte = s.txbByte := by
    rw [h]
    rfl
  have haddr : t.slotAddress p k = s.slotAddress p k := by
    rw [State.slotAddress, hentry, h]
    rfl
  simp only [State.slotSample, State.slotMidi, hbyte, haddr, hentry, and_self]

section
variable {s : State} {p : Fin 64} (k : Nat)

theorem State.extractPort_of_sample
    (htype : entryType s.ports[p].entry = .audio ∨ entryType s.ports[p].entry = .control) :
    s.extractPort (8 + 4 * s.dim.toNat * k) p = s.takenIn p
      (s.ports[p].takeSamples s.params.portDepth [s.slotSample p k])
      (turnedAway s.params.portDepth s.ports[p].pf [s.slotSample p k]) 0 := by
  rw [← State.pushSample_eq]
  unfold State.extractPort
  dsimp only
  rcases htype with htype | htype <;> rw [htype] <;> rfl

theorem State.extractPort_of_midi (htype : entryType s.ports[p].entry = .midi) :
    s.extractPort (8 + 4 * s.dim.toNat * k) p = s.takenIn p
      (s.ports[p].takeMidi s.params.midiMsgDepth (s.slotMidi p k))
      (s.ports[p].midiTurnedAway s.params.midiMsgDepth (s.slotMidi p k))
      ((feedBytes s.ports[p].md (s.slotMidi p k)).2.2 +
        if unknownLabel (s.txbByte (s.slotAddress p k)) then 1 else 0) := by
  rw [State.slotMidi, ← State.midiSlot_eq]
  unfold State.extractPort
  dsimp only
  rw [htype]
  rfl

theorem State.extractPort_of_reserved (htype : entryType s.ports[p].entry = .reserved) (base : Nat) :
    s.extractPort base p = s := by
  unfold State.extractPort
  dsimp only
  rw [htype]

theorem State.capturedPort_entry (s : State) (N : Nat) (p : Fin 64) :
    (s.capturedPort N p).entry = s.ports[p].entry := by
  unfold State.capturedPort
  dsimp only
  cases s.portEnabled p with
  | false => rfl
  | true => cases entryType s.ports[p].entry <;> rfl

end

/-- `t` is `s` after `k` data blocks as far as port `p` goes (R366). -/
structure AfterBlocks (s t : State) (p : Fin 64) (k : Nat) : Prop where
  frame : sameButPorts s t
  port : t.ports[p] = s.capturedPort k p

section
variable {s t : State} {p : Fin 64} {k : Nat} (h : AfterBlocks s t p k) (hen : s.portEnabled p = true)
include h

theorem AfterBlocks.params : t.params = s.params := by rw [h.frame]

theorem AfterBlocks.dim : t.dim = s.dim := by rw [h.frame]

theorem AfterBlocks.entry : t.ports[p].entry = s.ports[p].entry := by rw [h.port, State.capturedPort_entry]

include hen

theorem AfterBlocks.extract_sample
    (htype : entryType s.ports[p].entry = .audio ∨ entryType s.ports[p].entry = .control) :
    ∃ q a b, t.extractPort (8 + 4 * s.dim.toNat * k) p = t.takenIn p q a b ∧
      s.captures (k + 1) p q (s.capturedDrops k p + a) (s.capturedDiscards k p + b) := by
  obtain ⟨hsample, -, -⟩ := h.frame.slots k h.entry
  obtain ⟨hq, ha, hb⟩ := State.captures_of_sample hen k htype
  have hnext := State.captures_of_sample hen (k + 1) htype
  rw [State.capturedSamples_succ, Port.takeSamples_append, turnedAway_append] at hnext
  refine ⟨_, _, 0, h.dim ▸ State.extractPort_of_sample k (h.entry.symm ▸ htype), ?_⟩
  rw [h.port, h.params, hsample, hq, ha, hb]
  exact hnext

theorem AfterBlocks.extract_midi (htype : entryType s.ports[p].entry = .midi) :
    ∃ q a b, t.extractPort (8 + 4 * s.dim.toNat * k) p = t.takenIn p q a b ∧
      s.captures (k + 1) p q (s.capturedDrops k p + a) (s.capturedDiscards k p + b) := by
  obtain ⟨-, hmidi, hlabel⟩ := h.frame.slots k h.entry
  obtain ⟨hq, ha, hb⟩ := State.captures_of_midi hen k htype
  have hnext := State.captures_of_midi hen (k + 1) htype
  rw [State.capturedMidi_succ, Port.takeMidi_append, Port.midiTurnedAway_append, feedBytes_append,
    State.unknownLabels_succ, Nat.add_add_add_comm] at hnext
  refine ⟨_, _, _, h.dim ▸ State.extractPort_of_midi k (h.entry.symm ▸ htype), ?_⟩
  rw [h.port, h.params, hmidi, hlabel, hq, ha, hb]
  exact hnext

/-- The next data block adds to an enabled port what one more block of its own captures (R368, R369). -/
theorem AfterBlocks.extract :
    ∃ q a b, t.extractPort (8 + 4 * s.dim.toNat * k) p = t.takenIn p q a b ∧
      s.captures (k + 1) p q (s.capturedDrops k p + a) (s.capturedDiscards k p + b) := by
  cases htype : entryType s.ports[p].entry with
  | audio => exact h.extract_sample hen (.inl htype)
  | control => exact h.extract_sample hen (.inr htype)
  | midi => exact h.extract_midi hen htype
  | reserved =>
    obtain ⟨hq, ha, hb⟩ := State.captures_of_reserved hen k htype
    refine ⟨t.ports[p], 0, 0, ?_, ?_⟩
    · rw [State.takenIn_nothing]
      exact State.extractPort_of_reserved (h.entry.symm ▸ htype) _
    · rw [h.port, hq, ha, hb]
      exact State.captures_of_reserved hen (k + 1) htype

end

/-! ### The whole loop -/

/-- `t` is `s` after SP_DEMUX has served `n p` data blocks to each port `p`. -/
structure Served (s : State) (n : Fin 64 → Nat) (t : State) : Prop where
  frame : t = { s with
    ports := t.ports
    counters := { s.counters with
      portOvf := s.counters.portOvf + BitVec.ofNat 32 (∑ p, s.capturedDrops (n p) p)
      midiDiscard := s.counters.midiDiscard + BitVec.ofNat 32 (∑ p, s.capturedDiscards (n p) p) } }
  port : ∀ p : Fin 64, t.ports[p] = s.capturedPort (n p) p

section
variable {s t : State} {n : Fin 64 → Nat} (h : Served s n t)
include h

theorem Served.sameButPorts : sameButPorts s t := by
  rw [Machine.sameButPorts, h.frame]

theorem Served.portEnabled (p : Fin 64) : t.portEnabled p = s.portEnabled p := by
  have hentry : t.ports[p].entry = s.ports[p].entry := by rw [h.port, State.capturedPort_entry]
  rw [State.portEnabled, State.entryEnabled, hentry, h.frame]
  rfl

/-- One port is served up to `m` blocks. -/
theorem Served.takenIn {p : Fin 64} {m a b : Nat} {q : Port}
    (hq : s.captures m p q (s.capturedDrops (n p) p + a) (s.capturedDiscards (n p) p + b)) :
    Served s (Function.update n p m) (t.takenIn p q a b) := by
  obtain ⟨hport, hdrops, hdiscards⟩ := hq
  refine ⟨?_, fun r => ?_⟩
  · rw [sum_update_add hdrops, sum_update_add hdiscards]
    have hframe := h.frame
    generalize (∑ r, s.capturedDrops (n r) r) = x at hframe ⊢
    generalize (∑ r, s.capturedDiscards (n r) r) = y at hframe ⊢
    rw [hframe]
    simp [State.takenIn, BitVec.ofNat_add, BitVec.add_assoc]
  · rw [State.takenIn_port]
    split
    · subst r
      rw [Function.update_self, hport]
    · next hne => rw [Function.update_of_ne (Ne.symm hne), h.port]

/-- One more data block for one port. -/
theorem Served.round (p : Fin 64) :
    Served s (Function.update n p (n p + 1))
      (if p.val < s.params.nPorts then
        if t.portEnabled p then t.extractPort (8 + 4 * s.dim.toNat * n p) p else t
      else t) := by
  cases hen : s.portEnabled p with
  | true =>
    obtain ⟨hp, -⟩ := State.portEnabled_valid hen
    obtain ⟨q, a, b, hextract, hq⟩ := AfterBlocks.extract ⟨h.sameButPorts, h.port p⟩ hen
    rw [if_pos hp, h.portEnabled, if_pos hen, hextract]
    exact h.takenIn hq
  | false =>
    have hidle : Served s (Function.update n p (n p + 1)) (t.takenIn p t.ports[p] 0 0) := by
      obtain ⟨hq, ha, hb⟩ := State.captures_of_disabled hen (n p)
      refine h.takenIn ?_
      rw [h.port, hq, ha, hb]
      exact State.captures_of_disabled hen _
    rw [State.takenIn_nothing] at hidle
    have hskip : ¬t.portEnabled p = true := by rw [h.portEnabled, hen]; decide
    rw [if_neg hskip, ite_self]
    exact hidle

end

theorem Served.start (s : State) : Served s (fun _ => 0) s := by
  refine ⟨?_, fun p => (s.captures_zero p).1.symm⟩
  simp only [fun p => (s.captures_zero p).2.1, fun p => (s.captures_zero p).2.2, Finset.sum_const_zero,
    BitVec.add_zero]

/-- SP_DEMUX's loop serves every data block to every port (R366). -/
theorem served_demuxBlocks (s : State) (N : Nat) : Served s (fun _ => N) (s.demuxBlocks (4 * s.dim.toNat) N) := by
  refine State.forBlocks_rounds (nPorts := s.params.nPorts)
    (f := fun k t p => if t.portEnabled p then t.extractPort (8 + 4 * s.dim.toNat * k) p else t)
    (fun n t h => by rw [h.frame]) (fun k n t p _ hk h => ?_) (Served.start s)
  subst hk
  exact h.round p

/-! ### SP_DEMUX as a whole (R366, R367) -/

/-- What a timestamp, if one is made, changes (R366, R241). -/
theorem State.noteTimestamp_eq (s : State) (y : BitVec 16) (o : Option Word) :
    s.noteTimestamp y o = { s with
      lastTs := o.getD s.lastTs, tsValid := o.isSome || s.tsValid
      sytmonLast := o.getD s.sytmonLast, sytmonHave := o.isSome || s.sytmonHave
      counters := { s.counters with
        sytmon := s.counters.sytmon +
          if o.any fun ts => sytMismatch y ts || s.sytBackward ts then 1 else 0 } } := by
  cases o with
  | none => simp [State.noteTimestamp]
  | some ts =>
    rw [State.noteTimestamp, State.sytCheck_frame, ite_add_sytmon]
    rfl

/-- A timestamp moves nothing that the ports' captures look at. -/
theorem State.noteTimestamp_captured (s : State) (y : BitVec 16) (o : Option Word) (N : Nat) :
    (s.noteTimestamp y o).capturedPort N = s.capturedPort N ∧
    (s.noteTimestamp y o).capturedDrops N = s.capturedDrops N ∧
    (s.noteTimestamp y o).capturedDiscards N = s.capturedDiscards N := by
  rw [State.noteTimestamp_frame]
  exact ⟨rfl, rfl, rfl⟩

/-- Each port after SP_DEMUX of `N` data blocks. -/
theorem State.demuxPacket_port (s : State) (N : Nat) (p : Fin 64) :
    (s.demuxPacket N).ports[p] = s.capturedPort N p := by
  have hblocks := (served_demuxBlocks (s.noteTimestamp (cipSyt s.lastCip1) (s.demuxTimestamp (cipSyt s.lastCip1))) N).port p
  obtain ⟨hport, -, -⟩ := s.noteTimestamp_captured (cipSyt s.lastCip1) (s.demuxTimestamp (cipSyt s.lastCip1)) N
  have hdim : (s.noteTimestamp (cipSyt s.lastCip1) (s.demuxTimestamp (cipSyt s.lastCip1))).dim = s.dim := by
    rw [State.noteTimestamp_frame]
  rw [hport, hdim] at hblocks
  exact hblocks

/-- SP_DEMUX past its checks as one update, the ports left to `State.demuxPacket_port` (R366). -/
theorem State.demuxPacket_eq (s : State) (N : Nat) {ts : Option Word} (hts : s.demuxTimestamp (cipSyt s.lastCip1) = ts) :
    s.demuxPacket N = { s with
      lastTs := ts.getD s.lastTs, tsValid := ts.isSome || s.tsValid
      sytmonLast := ts.getD s.sytmonLast, sytmonHave := ts.isSome || s.sytmonHave, cpktValid := false
      ports := (s.demuxPacket N).ports
      counters := { s.counters with
        sytmon := s.counters.sytmon +
          if ts.any fun ts => sytMismatch (cipSyt s.lastCip1) ts || s.sytBackward ts then 1 else 0
        portOvf := s.counters.portOvf + BitVec.ofNat 32 (∑ p, s.capturedDrops N p)
        midiDiscard := s.counters.midiDiscard + BitVec.ofNat 32 (∑ p, s.capturedDiscards N p) }
      res := #v[lowWord N, if ts.isSome then 1 else 0, ts.getD 0, s.res[3]] } := by
  have hframe := (served_demuxBlocks (s.noteTimestamp (cipSyt s.lastCip1) ts) N).frame
  obtain ⟨-, hdrops, hdiscards⟩ := s.noteTimestamp_captured (cipSyt s.lastCip1) ts N
  have hdim : (s.noteTimestamp (cipSyt s.lastCip1) ts).dim = s.dim := by rw [State.noteTimestamp_frame]
  rw [hdrops, hdiscards, hdim] at hframe
  have hpacket : s.demuxPacket N =
      ((({ (s.noteTimestamp (cipSyt s.lastCip1) ts).demuxBlocks (4 * s.dim.toNat) N with cpktValid := false }.withRes 0
        (lowWord N)).withRes 1 (if ts.isSome then 1 else 0)).withRes 2 (ts.getD 0)) := by
    rw [← hts]
    rfl
  rw [hpacket, hframe, State.noteTimestamp_eq]
  simp only [State.withRes]
  rw [← res_set_three]
  rfl

/-- `State.demuxPacket_eq` when it is known of a timestamp `ts` whether it is made. -/
theorem State.demuxPacket_made (s : State) (N : Nat) {made : Bool} {ts : Word}
    (hts : s.demuxTimestamp (cipSyt s.lastCip1) = if made then some ts else none) :
    s.demuxPacket N = { s with
      lastTs := if made then ts else s.lastTs, tsValid := made || s.tsValid
      sytmonLast := if made then ts else s.sytmonLast, sytmonHave := made || s.sytmonHave, cpktValid := false
      ports := (s.demuxPacket N).ports
      counters := { s.counters with
        sytmon := s.counters.sytmon +
          if made && (sytMismatch (cipSyt s.lastCip1) ts || s.sytBackward ts) then 1 else 0
        portOvf := s.counters.portOvf + BitVec.ofNat 32 (∑ p, s.capturedDrops N p)
        midiDiscard := s.counters.midiDiscard + BitVec.ofNat 32 (∑ p, s.capturedDiscards N p) }
      res := #v[lowWord N, if made then 1 else 0, if made then ts else 0, s.res[3]] } := by
  refine (s.demuxPacket_eq N hts).trans ?_
  cases made with
  | true => rfl
  | false => rfl

theorem cipDbs_toNat (q0 : Word) : (cipDbs q0).toNat = q0.toNat / 2 ^ 16 % 2 ^ 8 := by
  rw [cipDbs, BitVec.extractLsb'_toNat, Nat.shiftRight_eq_div_pow]

/-- SP_DEMUX by its checks (R366, R367). -/
theorem execSpDemux_eq (s : State) :
    execSpDemux s =
      if (s.lc = .closed ∨ s.lc = .opened) ∨ s.dir ≠ .rx ∨ s.cpktValid = false then s.fails .eState
      else if s.cpktLen.toNat < 8 then s.protoFails .eProtoShort
      else if (s.txbQuad 0).toNat / 2 ^ 16 % 2 ^ 8 ≠ s.dim.toNat then s.parseHeader.protoFails .eProtoDim
      else if (s.cpktLen.toNat - 8) % (4 * s.dim.toNat) ≠ 0 then s.parseHeader.protoFails .eProtoLen
      else (s.parseHeader.demuxPacket ((s.cpktLen.toNat - 8) / (4 * s.dim.toNat))).succeeds := by
  have hstate : (!s.lc.ringReady || decide (s.dir ≠ .rx) || !s.cpktValid) = true ↔
      (s.lc = .closed ∨ s.lc = .opened) ∨ s.dir ≠ .rx ∨ s.cpktValid = false := by
    rw [Bool.or_eq_true, ringRefused_iff, Bool.not_eq_true', or_assoc]
  have hdbs : cipDbs s.parseHeader.lastCip0 ≠ s.dim ↔ (s.txbQuad 0).toNat / 2 ^ 16 % 2 ^ 8 ≠ s.dim.toNat := by
    rw [← cipDbs_toNat, ne_eq, ne_eq, BitVec.toNat_inj]
    rfl
  rw [execSpDemux]
  exact if_congr hstate rfl (if_congr Iff.rfl rfl (if_congr hdbs rfl rfl))

/-- An SP_DEMUX that ends without an error has served the packet (R366). -/
theorem execSpDemux_ok {s t : State} (h : execSpDemux s = .next t) (hok : t.err = .ok) :
    t = (s.parseHeader.demuxPacket ((s.cpktLen.toNat - 8) / (4 * s.dim.toNat))).raise .ok := by
  rw [execSpDemux_eq] at h
  split_ifs at h
  case neg => exact (succeeds_next.mp h).symm
  all_goals
    rw [← fails_next.mp h] at hok
    cases hok

/-- The timestamp of a valid receipt time and a valid SYT (R366). -/
theorem State.demuxTimestamp_eq (s : State) (y : BitVec 16) :
    s.demuxTimestamp y =
      if ctrValid s.cpktCtr && decide (y.toNat % 2 ^ 12 < 3072) then
        some (recon s.params.wrapMode y s.cpktCtr (ctrSec s.cpktCtr)).1
      else none := by
  rw [State.demuxTimestamp, sytValid, sytOff_toNat]
  rfl

end Sys2Proof.Machine
end

section
open Sys2Proof Sys2Proof.Machine

/-- Settles O20: each port has taken its own slots, and the sums count what each of them dropped and discarded. -/
theorem demuxServesEveryPort : Obligations.DemuxServesEveryPort := by
  intro s t N h hok
  obtain rfl := execSpDemux_ok h hok
  refine ⟨s.parseHeader.demuxPacket_port N, ?_, ?_⟩ <;>
  · rw [← Fin.sum_univ_def, State.raise_counters, State.demuxPacket_eq _ N rfl]
    rfl

/-- Settles O18, check by check. -/
theorem spDemuxRefusesMalformedPackets : Obligations.SpDemuxRefusesMalformedPackets := by
  refine ⟨rfl, ?_⟩
  intro s q0 q1 counters
  refine ite_of_eq_ite (execSpDemux_eq s) id fun hexec => ?_
  refine ite_of_eq_ite hexec id fun hexec => ?_
  refine ite_of_eq_ite hexec id fun hexec => ?_
  exact ite_of_eq_ite hexec id fun hexec => ⟨_, hexec, rfl⟩

/-- Settles O19: past the checks the whole next state, with the timestamp that is made or not made. -/
theorem spDemuxMakesTheTimestamp : Obligations.SpDemuxMakesTheTimestamp := by
  intro s q0 q1 y N made ts suspect hlc hdir hvalid hlen hdbs hmod
  have hdbs : q0.toNat / 2 ^ 16 % 2 ^ 8 = s.dim.toNat := hdbs ▸ (cipDbs_toNat q0).symm
  have hexec : execSpDemux s = (s.parseHeader.demuxPacket N).succeeds := by
    rw [execSpDemux_eq, if_neg, if_neg (by omega), if_neg (by simpa using hdbs), if_neg (by simpa using hmod)]
    rcases hlc with hlc | hlc | hlc <;> simp [hlc, hdir, hvalid]
  have hts : s.parseHeader.demuxTimestamp (cipSyt s.parseHeader.lastCip1) = if made then some ts else none :=
    s.parseHeader.demuxTimestamp_eq y
  have hcaptures := s.parseHeader.demuxPacket_capturesOnly N
  refine ⟨(s.parseHeader.demuxPacket N).ports,
    s.counters.portOvf + BitVec.ofNat 32 (∑ p, s.parseHeader.capturedDrops N p),
    s.counters.midiDiscard + BitVec.ofNat 32 (∑ p, s.parseHeader.capturedDiscards N p),
    fun p => ⟨hcaptures.entry p, hcaptures.eq p⟩, ?_⟩
  refine hexec.trans (congrArg State.succeeds (s.parseHeader.demuxPacket_made N hts))

end

section
/-! PROOFS. SP_MUX slot by slot (R370, R371, R416): what filling one slot changes, as one explicit update, and what it leaves
in the slot. For O21 and O22. -/

namespace Sys2Proof.Machine

/-! ### One slot -/

/-- `s` with `q` for port `p`, so many missing samples counted, and the bytes `bs` in TXB from `a` on. -/
def State.playedOut (s : State) (p : Fin 64) (q : Port) (misses a : Nat) (bs : List Byte) : State :=
  { s with
    ports := s.ports.set p.val q p.isLt
    counters := { s.counters with portUnf := s.counters.portUnf + BitVec.ofNat 32 misses }
    txb := writeBytes s.txb a bs }

section
variable (s : State) (p : Fin 64) (q : Port) (misses a : Nat) (bs : List Byte)

theorem State.playedOut_port (r : Fin 64) :
    (s.playedOut p q misses a bs).ports[r] = if p = r then q else s.ports[r] := s.setPort_port p q r

theorem State.playedOut_nothing : s.playedOut p s.ports[p] 0 a [] = s := by simp [State.playedOut, writeBytes]

theorem State.setPort_writeTxb : (s.setPort p q).writeTxb a bs = s.playedOut p q 0 a bs := by
  simp [State.playedOut, State.setPort, State.writeTxb]

theorem State.writeTxb_eq : s.writeTxb a bs = s.playedOut p s.ports[p] 0 a bs := by
  simp [State.playedOut, State.writeTxb]

theorem State.count_portUnf_eq : s.count .portUnf = s.playedOut p s.ports[p] 1 a [] := by
  simp [State.playedOut, State.count, State.addTo, Counters.add, writeBytes]

end

/-- Port `p` after SP_MUX of `N` data blocks, taken by itself: its queue has lost its first items (R371). -/
def State.playedPort (s : State) (N : Nat) (p : Fin 64) : Port :=
  if s.portEnabled p then
    if entryType s.ports[p].entry = .midi then { s.ports[p] with eq := s.ports[p].eq.drop N }
    else { s.ports[p] with pf := s.ports[p].pf.drop N }
  else s.ports[p]

/-- The bytes `fill_slot` writes for port `p`: none for an audio or control port without a sample to send (R371). -/
def State.slotWritten (s : State) (p : Fin 64) : List Byte :=
  if entryType s.ports[p].entry = .midi ∨ (s.portEnabled p = true ∧ s.ports[p].pf ≠ []) then s.slotContent p 0 else []

section
variable {s : State} {p : Fin 64}

/-- What a slot of an audio or control port holds (R371). -/
theorem State.slotContent_of_sample (htype : entryType s.ports[p].entry ≠ .midi) (k : Nat) :
    s.slotContent p k =
      match (if s.portEnabled p then s.ports[p].pf[k]? else none) with
      | some v => sampleBytes (entryWide s.ports[p].entry) v
      | none => List.replicate (entryWidth s.ports[p].entry) 0 := by
  unfold State.slotContent
  dsimp only
  exact if_neg htype

/-- What a slot of a MIDI port holds (R371, R416). -/
theorem State.slotContent_of_midi (htype : entryType s.ports[p].entry = .midi) (k : Nat) :
    s.slotContent p k =
      match (if s.portEnabled p then s.ports[p].eq[k]? else none) with
      | some b => [0x81, b, 0, 0]
      | none => [0x80, 0, 0, 0] := by
  unfold State.slotContent
  dsimp only
  exact if_pos htype

/-- Filling the slot of an audio or control port (R371). -/
theorem State.fillSample_eq (htype : entryType s.ports[p].entry = .audio ∨ entryType s.ports[p].entry = .control)
    (a : Nat) :
    s.fillSample p a = s.playedOut p (s.playedPort 1 p) (s.missedSamples 1 p) a (s.slotWritten p) := by
  have hmidi : entryType s.ports[p].entry ≠ .midi := by rcases htype with h | h <;> rw [h] <;> decide
  rw [State.fillSample, State.playedPort, State.missedSamples, State.slotWritten, State.slotContent_of_sample hmidi]
  cases hen : s.portEnabled p with
  | false => simpa [hmidi, -Fin.getElem_fin] using (s.playedOut_nothing p a).symm
  | true =>
    cases hpf : s.ports[p].pf with
    | nil =>
      have hsame : { s.ports[p] with pf := [] } = s.ports[p] := by rw [← hpf]
      simpa [htype, hmidi, hpf, hsame, -Fin.getElem_fin] using s.count_portUnf_eq p a
    | cons v rest =>
      simpa [hmidi, hpf, -Fin.getElem_fin] using s.setPort_writeTxb p _ a (sampleBytes (entryWide s.ports[p].entry) v)

/-- Filling the slot of a MIDI port (R371, R416). -/
theorem State.fillMidi_eq (htype : entryType s.ports[p].entry = .midi) (a : Nat) :
    s.fillMidi p a = s.playedOut p (s.playedPort 1 p) (s.missedSamples 1 p) a (s.slotWritten p) := by
  rw [State.fillMidi, State.playedPort, State.missedSamples, State.slotWritten, State.slotContent_of_midi htype]
  cases hen : s.portEnabled p with
  | false => simpa [htype, -Fin.getElem_fin] using s.writeTxb_eq p a [0x80, 0, 0, 0]
  | true =>
    cases heq : s.ports[p].eq with
    | nil =>
      have hsame : { s.ports[p] with eq := [] } = s.ports[p] := by rw [← heq]
      simpa [htype, heq, hsame, -Fin.getElem_fin] using s.writeTxb_eq p a [0x80, 0, 0, 0]
    | cons b rest => simpa [htype, heq, -Fin.getElem_fin] using s.setPort_writeTxb p _ a [0x81, b, 0, 0]

/-- Filling the slot of a port whose TYPE is not reserved (R371). -/
theorem State.fillSlot_eq (htype : entryType s.ports[p].entry ≠ .reserved) (base : Nat) :
    s.fillSlot base p =
      s.playedOut p (s.playedPort 1 p) (s.missedSamples 1 p) (base + entryOffset s.ports[p].entry) (s.slotWritten p) := by
  unfold State.fillSlot
  dsimp only
  split
  · next h => exact State.fillSample_eq (.inl h) _
  · next h => exact State.fillSample_eq (.inr h) _
  · next h => exact State.fillMidi_eq h _
  · next h => exact absurd h htype

theorem sampleBytes_length (wide : Bool) (v : Word) : (sampleBytes wide v).length = if wide then 4 else 3 := by
  cases wide <;> rfl

/-- A slot's content fills the slot: a MIDI port is 4 bytes wide (R362 check 5). -/
theorem State.slotContent_length (hwide : entryType s.ports[p].entry = .midi → entryWide s.ports[p].entry = true)
    (k : Nat) : (s.slotContent p k).length = entryWidth s.ports[p].entry := by
  by_cases htype : entryType s.ports[p].entry = .midi
  · rw [State.slotContent_of_midi htype, entryWidth_of_wide (hwide htype)]
    split <;> rfl
  · rw [State.slotContent_of_sample htype]
    split
    · exact sampleBytes_length ..
    · exact List.length_replicate

/-- A slot whose bytes were 0 holds its content after it is filled; no byte outside it is changed (R371). -/
theorem State.slotWritten_lookup {m : Memory} {a : Nat}
    (hwide : entryType s.ports[p].entry = .midi → entryWide s.ports[p].entry = true)
    (hzero : ∀ j, j < entryWidth s.ports[p].entry → lookupAt m (a + j) = some 0) (b : Nat) :
    lookupAt (writeBytes m a (s.slotWritten p)) b =
      if a ≤ b ∧ b < a + entryWidth s.ports[p].entry then (s.slotContent p 0)[b - a]? else lookupAt m b := by
  by_cases hwritten : entryType s.ports[p].entry = .midi ∨ (s.portEnabled p = true ∧ s.ports[p].pf ≠ [])
  · rw [State.slotWritten, if_pos hwritten, lookupAt_writeBytes, State.slotContent_length hwide]
  · obtain ⟨htype, hmissing⟩ := not_or.mp hwritten
    have hnone : (if s.portEnabled p then s.ports[p].pf[0]? else none) = none := by
      split
      · next hen =>
        have hempty : s.ports[p].pf = [] := by
          by_contra hne
          exact hmissing ⟨hen, hne⟩
        rw [hempty]
        rfl
      · rfl
    rw [State.slotWritten, if_neg hwritten, State.slotContent_of_sample htype, hnone]
    split
    · next hin =>
      obtain ⟨j, rfl⟩ := Nat.exists_eq_add_of_le hin.1
      have hj : j < entryWidth s.ports[p].entry := by omega
      rw [Nat.add_sub_cancel_left, List.getElem?_replicate, if_pos hj]
      exact hzero j hj
    · rfl

end

/-! ### One more data block -/

section
variable {s t : State} {p : Fin 64} {m : Nat} (hport : t.ports[p] = s.playedPort m p)
  (hen : t.portEnabled p = s.portEnabled p)

theorem State.playedPort_entry (s : State) (N : Nat) (p : Fin 64) :
    (s.playedPort N p).entry = s.ports[p].entry := by
  unfold State.playedPort
  split_ifs <;> rfl

include hport hen

/-- A port after `m` blocks plays its next item as after `m + 1`. -/
theorem playedPort_succ : t.playedPort 1 p = s.playedPort (m + 1) p := by
  have hentry : t.ports[p].entry = s.ports[p].entry := by rw [hport, State.playedPort_entry]
  rw [State.playedPort, State.playedPort, hen, hentry, hport, State.playedPort]
  split_ifs <;> simp only [List.drop_drop]

theorem missedSamples_succ : s.missedSamples (m + 1) p = s.missedSamples m p + t.missedSamples 1 p := by
  have hentry : t.ports[p].entry = s.ports[p].entry := by rw [hport, State.playedPort_entry]
  rw [State.missedSamples, State.missedSamples, State.missedSamples, hen, hentry, hport, State.playedPort]
  by_cases h : s.portEnabled p = true ∧
      (entryType s.ports[p].entry = .audio ∨ entryType s.ports[p].entry = .control)
  · obtain ⟨hon, htype⟩ := h
    have hmidi : entryType s.ports[p].entry ≠ .midi := by rcases htype with h | h <;> rw [h] <;> decide
    simp only [if_neg hmidi, hon, htype, and_self, if_true, List.length_drop]
    omega
  · simp only [if_neg h]

theorem slotContent_next : t.slotContent p 0 = s.slotContent p m := by
  have hentry : t.ports[p].entry = s.ports[p].entry := by rw [hport, State.playedPort_entry]
  by_cases htype : entryType s.ports[p].entry = .midi
  · rw [State.slotContent_of_midi htype, State.slotContent_of_midi (hentry.symm ▸ htype), hen, hport, State.playedPort]
    split_ifs <;> simp
  · rw [State.slotContent_of_sample htype, State.slotContent_of_sample (hentry.symm ▸ htype), hen, hentry, hport,
      State.playedPort]
    split_ifs <;> simp

end

end Sys2Proof.Machine
end

section
/-! PROOFS. The slots of a sound transmit table share no byte, and SP_MUX's loop fills each of them (R362, R370, R371).
For O22. -/

namespace Sys2Proof.Machine

/-! ### Slots of a packet -/

/-- Byte `a` of TXB belongs to port `p`'s slot in data block `k`. -/
def State.inSlot (s : State) (p : Fin 64) (k a : Nat) : Prop :=
  s.slotAddress p k ≤ a ∧ a < s.slotAddress p k + entryWidth s.ports[p].entry

/-- Bytes in different data blocks are different. -/
theorem block_eq_of_address_eq {B k l b c : Nat} (hb : b < B) (hc : c < B) (h : B * k + b = B * l + c) : k = l := by
  have hk : (B * k + b) / B = k := by
    rw [Nat.mul_add_div (by omega), Nat.div_eq_of_lt hb, Nat.add_zero]
  have hl : (B * l + c) / B = l := by
    rw [Nat.mul_add_div (by omega), Nat.div_eq_of_lt hc, Nat.add_zero]
  rw [← hk, h, hl]

section
variable {s : State} (hs : s.portsSound) {p q : Fin 64} {k l a : Nat} (hp : entryValid s.ports[p].entry = true)
include hs hp

/-- A byte of a slot by its place in the data block (R362 check 6). -/
theorem State.portsSound.inSlot_iff :
    s.inSlot p k a ↔ ∃ b, b < 4 * s.dim.toNat ∧ a = 8 + 4 * s.dim.toNat * k + b ∧
      entryOffset s.ports[p].entry ≤ b ∧ b < entryOffset s.ports[p].entry + entryWidth s.ports[p].entry := by
  obtain ⟨-, -, -, -, -, hfits⟩ := (hs.used hp).entry
  rw [State.inSlot, State.slotAddress]
  constructor
  · rintro ⟨hlow, hhigh⟩
    exact ⟨a - (8 + 4 * s.dim.toNat * k), by omega, by omega, by omega, by omega⟩
  · rintro ⟨b, hb, rfl, hlow, hhigh⟩
    exact ⟨by omega, by omega⟩

/-- The slots of a packet of `N` data blocks stand behind its header and inside it. -/
theorem State.portsSound.inSlot_bounds {N : Nat} (hk : k < N) (h : s.inSlot p k a) :
    8 ≤ a ∧ a < 8 + 4 * s.dim.toNat * N := by
  obtain ⟨b, hb, rfl, -, -⟩ := (hs.inSlot_iff hp).mp h
  have hblock : 4 * s.dim.toNat * (k + 1) ≤ 4 * s.dim.toNat * N := Nat.mul_le_mul_left _ hk
  rw [Nat.mul_add, Nat.mul_one] at hblock
  omega

/-- In a transmit stream a byte belongs to one slot at most (R362 check 7). -/
theorem State.portsSound.inSlot_unique (hdir : s.dir = .tx) (hq : entryValid s.ports[q].entry = true)
    (h : s.inSlot p k a) (h' : s.inSlot q l a) : p = q ∧ k = l := by
  obtain ⟨b, hb, ha, hlow, hhigh⟩ := (hs.inSlot_iff hp).mp h
  obtain ⟨c, hc, ha', hlow', hhigh'⟩ := (hs.inSlot_iff hq).mp h'
  obtain rfl : k = l := block_eq_of_address_eq hb hc (by omega)
  refine ⟨?_, rfl⟩
  by_contra hne
  obtain ⟨-, -, hdisjoint⟩ := hs
  have hoverlap := hdisjoint hdir p q hne hp hq
  simp only [slotsOverlap, Bool.and_eq_false_iff, decide_eq_false_iff_not] at hoverlap
  omega

theorem State.portsSound.not_reserved : entryType s.ports[p].entry ≠ .reserved := by
  obtain ⟨-, -, htype, -⟩ := (hs.used hp).entry
  exact htype

theorem State.portsSound.midi_wide (hmidi : entryType s.ports[p].entry = .midi) :
    entryWide s.ports[p].entry = true := by
  obtain ⟨-, -, -, -, hwide, -⟩ := (hs.used hp).entry
  exact hwide hmidi

end

/-! ### The loop -/

/-- `t` is `s` after SP_MUX has filled the slots of `n p` data blocks of each port `p`. -/
structure Filled (s : State) (n : Fin 64 → Nat) (t : State) : Prop where
  frame : t = { s with
    ports := t.ports
    counters := { s.counters with
      portUnf := s.counters.portUnf + BitVec.ofNat 32 (∑ p, s.missedSamples (n p) p) }
    txb := t.txb }
  port : ∀ p : Fin 64, t.ports[p] = s.playedPort (n p) p
  slot : ∀ (p : Fin 64) (k a : Nat), entryValid s.ports[p].entry = true → k < n p → s.inSlot p k a →
    lookupAt t.txb a = (s.slotContent p k)[a - s.slotAddress p k]?
  other : ∀ a, (∀ (p : Fin 64) (k : Nat), entryValid s.ports[p].entry = true → k < n p → ¬s.inSlot p k a) →
    lookupAt t.txb a = lookupAt s.txb a

theorem State.playedPort_zero (s : State) (p : Fin 64) : s.playedPort 0 p = s.ports[p] := by
  unfold State.playedPort
  split_ifs <;> rfl

theorem State.missedSamples_zero (s : State) (p : Fin 64) : s.missedSamples 0 p = 0 := by
  simp [State.missedSamples]

theorem Filled.start (s : State) : Filled s (fun _ => 0) s where
  frame := by
    simp only [State.missedSamples_zero, Finset.sum_const_zero, BitVec.add_zero]
  port p := (s.playedPort_zero p).symm
  slot _ _ _ _ hk := absurd hk (Nat.not_lt_zero _)
  other _ _ := rfl

section
variable {s t : State} {n : Fin 64 → Nat} (h : Filled s n t) (p : Fin 64)
include h

theorem Filled.entry : t.ports[p].entry = s.ports[p].entry := by rw [h.port, State.playedPort_entry]

theorem Filled.portEnabled : t.portEnabled p = s.portEnabled p := by
  rw [State.portEnabled, State.entryEnabled, h.entry, h.frame]
  rfl

variable {p}

/-- A port that is not valid has no slots, no queues to play and nothing to miss. -/
theorem Filled.skip (hp : entryValid s.ports[p].entry = false) (m : Nat) : Filled s (Function.update n p m) t := by
  have hen : s.portEnabled p = false := by
    rw [← Bool.not_eq_true]
    intro hen
    obtain ⟨-, hv⟩ := State.portEnabled_valid hen
    exact absurd (hp.symm.trans hv) (by decide)
  have hmissed : s.missedSamples m p = s.missedSamples (n p) p + 0 := by simp [State.missedSamples, hen]
  have hother : ∀ r : Fin 64, entryValid s.ports[r].entry = true → Function.update n p m r = n r := by
    intro r hr
    refine Function.update_of_ne ?_ ..
    rintro rfl
    exact absurd (hp.symm.trans hr) (by decide)
  refine ⟨?_, fun r => ?_, fun r k a hr hk => ?_, fun a ha => ?_⟩
  · rw [sum_update_add hmissed, Nat.add_zero]
    exact h.frame
  · rw [h.port]
    by_cases hr : r = p
    · subst r
      simp only [State.playedPort, hen, Bool.false_eq_true, if_false]
    · rw [Function.update_of_ne hr]
  · rw [hother r hr] at hk
    exact h.slot r k a hr hk
  · refine h.other a fun r k hr hk => ha r k hr ?_
    rwa [hother r hr]

/-- Filling the next slot of a valid port, as one update. -/
theorem Filled.fillSlot_eq (hs : s.portsSound) (hp : entryValid s.ports[p].entry = true) :
    t.fillSlot (8 + 4 * s.dim.toNat * n p) p =
      t.playedOut p (s.playedPort (n p + 1) p) (t.missedSamples 1 p) (s.slotAddress p (n p)) (t.slotWritten p) := by
  have hentry := h.entry p
  rw [State.fillSlot_eq (hentry.symm ▸ hs.not_reserved hp), hentry, playedPort_succ (h.port p) (h.portEnabled p)]
  rfl

/-- TXB after the next slot of a valid port is filled, in a packet whose slots were 0. -/
theorem Filled.fillSlot_lookup (hs : s.portsSound) (hdir : s.dir = .tx) (hp : entryValid s.ports[p].entry = true)
    (hzero : ∀ a, s.inSlot p (n p) a → lookupAt s.txb a = some 0) (a : Nat) :
    lookupAt (t.fillSlot (8 + 4 * s.dim.toNat * n p) p).txb a =
      if s.slotAddress p (n p) ≤ a ∧ a < s.slotAddress p (n p) + entryWidth s.ports[p].entry then
        (s.slotContent p (n p))[a - s.slotAddress p (n p)]?
      else lookupAt t.txb a := by
  have hentry := h.entry p
  have hempty : ∀ j, j < entryWidth t.ports[p].entry → lookupAt t.txb (s.slotAddress p (n p) + j) = some 0 := by
    intro j hj
    rw [hentry] at hj
    have hin : s.inSlot p (n p) (s.slotAddress p (n p) + j) := ⟨by omega, by omega⟩
    rw [h.other _ fun q k hq hk hin' => ?_]
    · exact hzero _ hin
    · obtain ⟨rfl, rfl⟩ := hs.inSlot_unique hp hdir hq hin hin'
      exact Nat.lt_irrefl _ hk
  have hlookup := State.slotWritten_lookup (s := t) (p := p) (hentry.symm ▸ hs.midi_wide hp) hempty a
  rw [hentry, slotContent_next (h.port p) (h.portEnabled p)] at hlookup
  rw [h.fillSlot_eq hs hp]
  exact hlookup

/-- The next slot of a valid port is filled. -/
theorem Filled.fill (hs : s.portsSound) (hdir : s.dir = .tx) (hp : entryValid s.ports[p].entry = true)
    (hzero : ∀ a, s.inSlot p (n p) a → lookupAt s.txb a = some 0) :
    Filled s (Function.update n p (n p + 1)) (t.fillSlot (8 + 4 * s.dim.toNat * n p) p) := by
  have hlookup := h.fillSlot_lookup hs hdir hp hzero
  have hfill := h.fillSlot_eq hs hp
  refine ⟨?_, fun r => ?_, fun r k a hr hk hin => ?_, fun a ha => ?_⟩
  · rw [sum_update_add (missedSamples_succ (h.port p) (h.portEnabled p)), hfill]
    have hframe := h.frame
    generalize (∑ r, s.missedSamples (n r) r) = x at hframe ⊢
    generalize t.missedSamples 1 p = y
    rw [hframe]
    simp [State.playedOut, BitVec.ofNat_add, BitVec.add_assoc]
  · rw [hfill, State.playedOut_port]
    split
    · subst r
      rw [Function.update_self]
    · next hne => rw [Function.update_of_ne (Ne.symm hne), h.port]
  · rw [hlookup]
    split
    · next hnew =>
      obtain ⟨rfl, rfl⟩ := hs.inSlot_unique hr hdir hp hin hnew
      rfl
    · next hold =>
      refine h.slot r k a hr ?_ hin
      by_cases hrp : r = p
      · subst r
        rw [Function.update_self] at hk
        refine Nat.lt_of_le_of_ne (Nat.le_of_lt_succ hk) ?_
        rintro rfl
        exact hold hin
      · rwa [Function.update_of_ne hrp] at hk
  · have hnew : ¬s.inSlot p (n p) a := ha p (n p) hp (by rw [Function.update_self]; exact Nat.lt_succ_self _)
    refine (hlookup a).trans ((if_neg hnew).trans ?_)
    refine h.other a fun q k hq hk => ha q k hq ?_
    by_cases hqp : q = p
    · subst q
      rw [Function.update_self]
      exact Nat.lt_succ_of_lt hk
    · rwa [Function.update_of_ne hqp]

end

/-- SP_MUX's loop fills every slot of `N` data blocks that were 0 (R370). -/
theorem filled_muxBlocks {s : State} (hs : s.portsSound) (hdir : s.dir = .tx) {N : Nat}
    (hzero : ∀ a, 8 ≤ a → a < 8 + 4 * s.dim.toNat * N → lookupAt s.txb a = some 0) :
    Filled s (fun _ => N) (s.muxBlocks (4 * s.dim.toNat) N) := by
  refine State.forBlocks_rounds (nPorts := s.params.nPorts)
    (f := fun k t p => if entryValid t.ports[p].entry then t.fillSlot (8 + 4 * s.dim.toNat * k) p else t)
    (fun n t h => by rw [h.frame]) (fun k n t p hk hn h => ?_) (Filled.start s)
  subst hn
  cases hp : entryValid s.ports[p].entry with
  | true =>
    rw [if_pos (hs.lt_nPorts hp), h.entry, if_pos hp]
    refine h.fill hs hdir hp fun a ha => ?_
    obtain ⟨hlow, hhigh⟩ := hs.inSlot_bounds hp hk ha
    exact hzero a hlow hhigh
  | false =>
    have hskip : ¬entryValid t.ports[p].entry = true := by rw [h.entry, hp]; decide
    rw [if_neg hskip, ite_self]
    exact h.skip hp _

end Sys2Proof.Machine
end

section
/-! PROOFS. SP_MUX as a whole (R370): its checks, the packet before its loop, and what every state keeps. For O21, O22 and
O23. -/

namespace Sys2Proof.Machine

/-- SP_MUX by its checks on the numbers in ARG0 and ARG1 (R370). -/
theorem execSpMux_eq (s : State) :
    execSpMux s =
      if (s.lc = .closed ∨ s.lc = .opened) ∨ s.dir ≠ .tx then s.fails .eState
      else if 2 ^ 16 ≤ s.arg[0].toNat ∨ 2 ^ 16 ≤ s.arg[1].toNat then s.fails .eArg
      else if s.maxPkt.toNat < 8 + s.arg[0].toNat * (4 * s.dim.toNat) then s.fails .eTooLong
      else ((s.muxPacket s.arg[0].toNat (s.arg[1].setWidth 16)).withRes 0
        (lowWord (8 + s.arg[0].toNat * (4 * s.dim.toNat)))).succeeds := by
  rw [execSpMux]
  refine if_congr (ringRefused_iff s .tx) rfl ?_
  split
  · next n y hn hy =>
    obtain ⟨hlt0, rfl⟩ := State.argField_some hn
    obtain ⟨hlt1, rfl⟩ := State.argField_some hy
    have hlt0 : s.arg[0].toNat < 2 ^ 16 := hlt0
    have hlt1 : s.arg[1].toNat < 2 ^ 16 := hlt1
    refine Eq.trans ?_ (if_neg (by omega)).symm
    rw [← toNat_setWidth_of_lt hlt0]
    rfl
  · next hnone =>
    have hout : 2 ^ 16 ≤ s.arg[0].toNat ∨ 2 ^ 16 ≤ s.arg[1].toNat := by
      by_contra! hlt
      obtain ⟨hlt0, hlt1⟩ := hlt
      exact hnone _ _ (State.argField_of_lt hlt0) (State.argField_of_lt hlt1)
    exact (if_pos hout).symm

/-- An SP_MUX that ends without an error has built the packet in a transmit stream (R370). -/
theorem execSpMux_ok {s t : State} (h : execSpMux s = .next t) (hok : t.err = .ok) :
    s.dir = .tx ∧ ∃ y v, t = ((s.muxPacket s.arg[0].toNat y).withRes 0 v).raise .ok := by
  rw [execSpMux_eq] at h
  split_ifs at h with hstate
  case neg =>
    obtain ⟨-, hdir⟩ := not_or.mp hstate
    exact ⟨not_not.mp hdir, _, _, (succeeds_next.mp h).symm⟩
  all_goals
    rw [← fails_next.mp h] at hok
    cases hok

/-! ### The packet before the loop -/

/-- The state in which SP_MUX's loop begins: a packet of zeros behind its header (R370). -/
def State.muxStart (s : State) (N : Nat) (y : BitVec 16) : State :=
  (s.writeTxb 0 (List.replicate (8 + N * (4 * s.dim.toNat)) 0)).writeTxb 0 (s.muxHeader y)

section
variable (s : State) (N : Nat) (y : BitVec 16)

theorem State.muxStart_eq : ∃ txb, s.muxStart N y = { s with txb := txb } := ⟨_, rfl⟩

theorem State.muxStart_stream : (s.muxStart N y).dim = s.dim ∧ (s.muxStart N y).dir = s.dir := by
  obtain ⟨txb, htxb⟩ := s.muxStart_eq N y
  rw [htxb]
  exact ⟨rfl, rfl⟩

theorem State.muxStart_ports : (s.muxStart N y).ports = s.ports := by
  obtain ⟨txb, htxb⟩ := s.muxStart_eq N y
  rw [htxb]

theorem State.muxStart_counters : (s.muxStart N y).counters = s.counters := by
  obtain ⟨txb, htxb⟩ := s.muxStart_eq N y
  rw [htxb]

theorem State.muxStart_sameTable : sameTable s (s.muxStart N y) := by
  obtain ⟨txb, htxb⟩ := s.muxStart_eq N y
  rw [htxb]
  rfl

/-- The header and the zeros move nothing that the ports' slots and queues look at. -/
theorem State.muxStart_slots :
    (s.muxStart N y).slotAddress = s.slotAddress ∧ (s.muxStart N y).slotContent = s.slotContent ∧
    (s.muxStart N y).inSlot = s.inSlot ∧ (s.muxStart N y).playedPort = s.playedPort ∧
    (s.muxStart N y).missedSamples = s.missedSamples := by
  obtain ⟨txb, htxb⟩ := s.muxStart_eq N y
  rw [htxb]
  exact ⟨rfl, rfl, rfl, rfl, rfl⟩

/-- What the packet takes from the loop. -/
theorem State.muxPacket_loop :
    (s.muxPacket N y).txb = ((s.muxStart N y).muxBlocks (4 * s.dim.toNat) N).txb ∧
    (s.muxPacket N y).ports = ((s.muxStart N y).muxBlocks (4 * s.dim.toNat) N).ports ∧
    (s.muxPacket N y).counters = ((s.muxStart N y).muxBlocks (4 * s.dim.toNat) N).counters :=
  ⟨rfl, rfl, rfl⟩

end

theorem State.muxStart_lookup (s : State) (N : Nat) (y : BitVec 16) (a : Nat) :
    lookupAt (s.muxStart N y).txb a =
      if a < 8 then (s.muxHeader y)[a]? else if a < 8 + 4 * s.dim.toNat * N then some 0 else lookupAt s.txb a := by
  have hheader : (s.muxHeader y).length = 8 := rfl
  rw [State.muxStart, State.writeTxb_txb, State.writeTxb_txb, lookupAt_writeBytes, lookupAt_writeBytes, hheader,
    List.length_replicate, Nat.mul_comm N]
  simp only [Nat.zero_le, true_and, Nat.zero_add, Nat.sub_zero, List.getElem?_replicate]
  split_ifs <;> rfl

theorem State.muxStart_zero (s : State) {N a : Nat} (y : BitVec 16) (hlow : 8 ≤ a)
    (hhigh : a < 8 + 4 * s.dim.toNat * N) : lookupAt (s.muxStart N y).txb a = some 0 := by
  rw [State.muxStart_lookup, if_neg (Nat.not_lt.mpr hlow), if_pos hhigh]

/-! ### What every state keeps -/

/-- SP_MUX's loop counts in CNT_PORT_UNF alone and leaves the packet's header as it is. -/
structure KeepsHeader (s t : State) : Prop where
  counters : t.counters = { s.counters with portUnf := t.counters.portUnf }
  header : ∀ a, a < 8 → lookupAt t.txb a = lookupAt s.txb a

theorem KeepsHeader.refl (s : State) : KeepsHeader s s := ⟨rfl, fun _ _ => rfl⟩

theorem KeepsHeader.trans {s t u : State} (h : KeepsHeader s t) (k : KeepsHeader t u) : KeepsHeader s u := by
  refine ⟨?_, fun a ha => (k.header a ha).trans (h.header a ha)⟩
  rw [k.counters, h.counters]

theorem keepsHeader_playedOut (s : State) (p : Fin 64) (q : Port) (misses : Nat) {a : Nat} (ha : 8 ≤ a)
    (bs : List Byte) : KeepsHeader s (s.playedOut p q misses a bs) :=
  ⟨rfl, fun b hb => lookupAt_writeBytes_outside s.txb a bs b (.inl (Nat.lt_of_lt_of_le hb ha))⟩

theorem keepsHeader_fillSlot (s : State) (p : Fin 64) {base : Nat} (hbase : 8 ≤ base) :
    KeepsHeader s (s.fillSlot base p) := by
  by_cases htype : entryType s.ports[p].entry = .reserved
  · have hkept : s.fillSlot base p = s := by
      unfold State.fillSlot
      dsimp only
      rw [htype]
    rw [hkept]
    exact .refl s
  · rw [State.fillSlot_eq htype]
    exact keepsHeader_playedOut s p _ _ (Nat.le_add_right_of_le hbase) _

theorem keepsHeader_muxBlocks (s : State) (B N : Nat) : KeepsHeader s (s.muxBlocks B N) := by
  refine State.forBlocks_keeps (KeepsHeader s) _ (fun t k ht => ?_) s N (.refl s)
  refine State.forPorts_keeps (KeepsHeader s) _ (fun u p hu => ?_) t ht
  split
  · exact hu.trans (keepsHeader_fillSlot u p (Nat.le_add_right 8 _))
  · exact hu

/-- SP_MUX's effect with its frame: of the counters CNT_PORT_UNF alone moves (R370). -/
theorem State.muxPacket_eq (s : State) (N : Nat) (y : BitVec 16) :
    s.muxPacket N y = { s with
      ports := (s.muxPacket N y).ports
      counters := { s.counters with portUnf := (s.muxPacket N y).counters.portUnf }
      txb := (s.muxPacket N y).txb
      dbcTx := s.dbcTx + BitVec.ofNat 8 N } := by
  have hframe := s.muxPacket_frame N y
  have hcounters := (keepsHeader_muxBlocks (s.muxStart N y) (4 * s.dim.toNat) N).counters
  obtain ⟨-, -, hloop⟩ := s.muxPacket_loop N y
  rw [State.muxStart_counters, ← hloop] at hcounters
  rw [hcounters] at hframe
  exact hframe

/-- The bytes of the header SP_MUX leaves in TXB (R370). -/
theorem State.muxPacket_header (s : State) (N : Nat) (y : BitVec 16) :
    (List.range 8).map (lookupAt (s.muxPacket N y).txb) = (s.muxHeader y).map some := by
  have hbyte : ∀ a, a < 8 → lookupAt (s.muxPacket N y).txb a = (s.muxHeader y)[a]? := by
    intro a ha
    have hkept := (keepsHeader_muxBlocks (s.muxStart N y) (4 * s.dim.toNat) N).header a ha
    obtain ⟨hloop, -⟩ := s.muxPacket_loop N y
    rw [State.muxStart_lookup, if_pos ha, ← hloop] at hkept
    exact hkept
  refine List.ext_getElem rfl fun a ha ha' => ?_
  have ha : a < 8 := ha
  rw [List.getElem_map, List.getElem_range, List.getElem_map, hbyte a ha, List.getElem?_eq_getElem]

/-! ### A sound transmit stream -/

section
variable {s : State} (hs : s.portsSound) (hdir : s.dir = .tx) (N : Nat) (y : BitVec 16)
include hs hdir

/-- In a sound transmit stream every slot of the packet is filled (R370, R371). -/
theorem State.muxStart_filled :
    Filled (s.muxStart N y) (fun _ => N) ((s.muxStart N y).muxBlocks (4 * s.dim.toNat) N) := by
  have hstart := (s.muxStart_sameTable N y).keepsTable.portsSound hs
  obtain ⟨hdim, hdir'⟩ := s.muxStart_stream N y
  have hfilled := filled_muxBlocks (N := N) hstart (hdir'.trans hdir)
  rw [hdim] at hfilled
  exact hfilled fun a hlow hhigh => s.muxStart_zero y hlow hhigh

theorem State.muxPacket_slot {p : Fin 64} {k j : Nat} (hp : entryValid s.ports[p].entry = true) (hk : k < N)
    (hj : j < entryWidth s.ports[p].entry) :
    lookupAt (s.muxPacket N y).txb (s.slotAddress p k + j) = (s.slotContent p k)[j]? := by
  have hslot := (State.muxStart_filled hs hdir N y).slot
  obtain ⟨haddr, hcontent, hin, -, -⟩ := s.muxStart_slots N y
  obtain ⟨hloop, -⟩ := s.muxPacket_loop N y
  rw [haddr, hcontent, hin, ← hloop, State.muxStart_ports] at hslot
  have hbyte := hslot p k (s.slotAddress p k + j) hp hk ⟨Nat.le_add_right _ _, Nat.add_lt_add_left hj _⟩
  rw [Nat.add_sub_cancel_left] at hbyte
  exact hbyte

/-- A byte of TXB behind the header and outside every slot of the packet. -/
theorem State.muxPacket_other {a : Nat}
    (hfree : ∀ (p : Fin 64) (k : Nat), entryValid s.ports[p].entry = true → k < N → ¬s.inSlot p k a) :
    lookupAt (s.muxPacket N y).txb a = lookupAt (s.muxStart N y).txb a := by
  have hother := (State.muxStart_filled hs hdir N y).other a
  obtain ⟨-, -, hin, -, -⟩ := s.muxStart_slots N y
  obtain ⟨hloop, -⟩ := s.muxPacket_loop N y
  rw [hin, ← hloop, State.muxStart_ports] at hother
  exact hother hfree

/-- A byte of a data block that no port covers is 0. -/
theorem State.muxPacket_uncovered {k b : Nat} (hk : k < N) (hb : b < 4 * s.dim.toNat)
    (hfree : ∀ p : Fin 64, entryValid s.ports[p].entry = true →
      b < entryOffset s.ports[p].entry ∨ entryOffset s.ports[p].entry + entryWidth s.ports[p].entry ≤ b) :
    lookupAt (s.muxPacket N y).txb (8 + 4 * s.dim.toNat * k + b) = some 0 := by
  rw [State.muxPacket_other hs hdir N y]
  · have hblock : 4 * s.dim.toNat * (k + 1) ≤ 4 * s.dim.toNat * N := Nat.mul_le_mul_left _ hk
    rw [Nat.mul_add, Nat.mul_one] at hblock
    exact s.muxStart_zero y (by omega) (by omega)
  · intro p l hp _ hin
    obtain ⟨c, hc, haddr, hlow, hhigh⟩ := (hs.inSlot_iff hp).mp hin
    obtain rfl : k = l := block_eq_of_address_eq hb hc (by omega)
    have := hfree p hp
    omega

/-- Bytes past the packet are as before. -/
theorem State.muxPacket_beyond {a : Nat} (ha : 8 + 4 * s.dim.toNat * N ≤ a) :
    lookupAt (s.muxPacket N y).txb a = lookupAt s.txb a := by
  rw [State.muxPacket_other hs hdir N y, State.muxStart_lookup, if_neg (by omega), if_neg (Nat.not_lt.mpr ha)]
  intro p k hp hk hin
  obtain ⟨-, hlt⟩ := hs.inSlot_bounds hp hk hin
  omega

/-- Each port after SP_MUX, and the misses counted. -/
theorem State.muxPacket_ports :
    (∀ p : Fin 64, (s.muxPacket N y).ports[p] = s.playedPort N p) ∧
    (s.muxPacket N y).counters.portUnf = s.counters.portUnf + BitVec.ofNat 32 (∑ p, s.missedSamples N p) := by
  have hfilled := State.muxStart_filled hs hdir N y
  obtain ⟨-, -, -, hplayed, hmissed⟩ := s.muxStart_slots N y
  obtain ⟨-, hports, hloop⟩ := s.muxPacket_loop N y
  have hport := hfilled.port
  have hunf := congrArg (fun t => t.counters.portUnf) hfilled.frame
  rw [hplayed, ← hports] at hport
  dsimp only at hunf
  rw [hmissed, ← hloop, State.muxStart_counters] at hunf
  exact ⟨hport, hunf⟩

end

end Sys2Proof.Machine
end

section
open Sys2Proof Sys2Proof.Machine

/-- Settles O22: the loop has filled every slot, and what it has not filled is as the packet began. -/
theorem muxFillsEverySlot : Obligations.MuxFillsEverySlot := by
  intro s t N B hs h hok
  obtain ⟨hdir, y, v, rfl⟩ := execSpMux_ok h hok
  obtain ⟨hport, hunf⟩ := State.muxPacket_ports hs hdir N y
  rw [Fin.sum_univ_def] at hunf
  simp only [State.raise_txb, State.withRes_txb, State.raise_ports, State.withRes_ports, State.raise_counters,
    State.withRes_counters]
  exact ⟨fun p k j hp hk hj => State.muxPacket_slot hs hdir N y hp hk hj,
    fun k b hk hb hfree => State.muxPacket_uncovered hs hdir N y hk hb hfree,
    fun a ha => State.muxPacket_beyond hs hdir N y ha, hport, hunf⟩

end

section
/-! PROOFS. What SP_MUX puts back of what SP_DEMUX took out (R372), and the header bytes of SP_MUX. For O21 and O23. -/

namespace Sys2Proof.Machine

/-! ### The header (R370) -/

/-- SP_MUX past its checks: the whole next state, TXB and the ports left to the loop (R370). -/
theorem State.muxPacket_succeeds (s : State) (N : Nat) (y : BitVec 16) (v : Word) :
    ((s.muxPacket N y).withRes 0 v).succeeds = .next { s with
      txb := (s.muxPacket N y).txb, ports := (s.muxPacket N y).ports
      counters := { s.counters with portUnf := (s.muxPacket N y).counters.portUnf }
      dbcTx := BitVec.ofNat 8 (s.dbcTx.toNat + N), res := #v[v, s.res[1], s.res[2], s.res[3]], err := .ok } := by
  have hdbc : s.dbcTx + BitVec.ofNat 8 N = BitVec.ofNat 8 (s.dbcTx.toNat + N) := by
    rw [BitVec.ofNat_add, BitVec.ofNat_toNat, BitVec.setWidth_eq]
  refine (congrArg (fun t => (t.withRes 0 v).succeeds) (s.muxPacket_eq N y)).trans ?_
  rw [hdbc, ← res_set_zero]
  rfl

/-! ### Samples and slots (R178) -/

/-- A sample written back is the bytes it was read from. -/
theorem sampleBytes_sampleValue (wide : Bool) (b0 b1 b2 b3 : Byte) :
    sampleBytes wide (sampleValue wide b0 b1 b2 b3) = if wide then [b0, b1, b2, b3] else [b0, b1, b2] := by
  cases wide with
  | true =>
    obtain ⟨h0, h1, h2, h3⟩ := be32_bytes b0 b1 b2 b3
    simp only [sampleBytes, sampleValue, putBe32, if_true, h0, h1, h2, h3]
  | false =>
    obtain ⟨-, h1, h2, h3⟩ := be32_bytes 0 b0 b1 b2
    have hvalue : sampleValue false b0 b1 b2 b3 = be32 0 b0 b1 b2 := rfl
    rw [hvalue]
    simp only [sampleBytes, Bool.false_eq_true, if_false, h1, h2, h3]

/-- The bytes of a sample taken from a slot are the slot's. -/
theorem State.sampleBytes_slotSample (s : State) (p : Fin 64) (k : Nat) {j : Nat}
    (hj : j < entryWidth s.ports[p].entry) :
    (sampleBytes (entryWide s.ports[p].entry) (s.slotSample p k))[j]? = some (s.txbByte (s.slotAddress p k + j)) := by
  rw [State.slotSample, sampleBytes_sampleValue]
  rw [entryWidth] at hj
  split_ifs at hj ⊢ <;> interval_cases j <;> rfl

/-- An enabled audio or control port whose FIFO was empty, with room for `N` samples, has captured its slots. -/
theorem State.capturedPort_pf {s : State} {p : Fin 64} {N : Nat} (hen : s.portEnabled p = true)
    (htype : entryType s.ports[p].entry = .audio ∨ entryType s.ports[p].entry = .control)
    (hempty : s.ports[p].pf = []) (hroom : N ≤ s.params.portDepth) :
    (s.capturedPort N p).pf = (List.range N).map (s.slotSample p) := by
  obtain ⟨hq, -, -⟩ := State.captures_of_sample hen N htype
  rw [hq, Port.takeSamples, offered, hempty, State.capturedSamples_eq, List.nil_append, List.length_nil, Nat.sub_zero,
    List.take_of_length_le (by simpa using hroom)]

/-! ### The playback twin of a capture port (R372) -/

/-- Setting DIR changes no other field. -/
theorem entry_or_dir (e : Word) :
    entryValid (e ||| 2) = entryValid e ∧ entryType (e ||| 2) = entryType e ∧ entryWide (e ||| 2) = entryWide e ∧
    entryOffset (e ||| 2) = entryOffset e ∧ entryPres (e ||| 2) = entryPres e := by
  refine ⟨by simp [entryValid], ?_, by simp [entryWide], ?_, ?_⟩
  · simp only [entryType, extractLsb'_or_of_zero (e := e) (m := 2) (i := 2) (l := 2) rfl]
  · simp only [entryOffset, extractLsb'_or_of_zero (e := e) (m := 2) (i := 8) (l := 10) rfl]
  · simp only [entryPres, extractLsb'_or_of_zero (e := e) (m := 2) (i := 18) (l := 9) rfl]

/-- Port `p` of `u` has the slot, the format and the enabling of port `p` of `s`. -/
structure TwinPort (s u : State) (p : Fin 64) : Prop where
  valid : entryValid u.ports[p].entry = entryValid s.ports[p].entry
  type : entryType u.ports[p].entry = entryType s.ports[p].entry
  wide : entryWide u.ports[p].entry = entryWide s.ports[p].entry
  offset : entryOffset u.ports[p].entry = entryOffset s.ports[p].entry
  enabled : u.portEnabled p = s.portEnabled p

theorem twinPort_of_entry {s u : State} {p : Fin 64} (hparams : u.params = s.params) (htier : u.tier = s.tier)
    (hopt : u.opt = s.opt)
    (hentry : u.ports[p].entry = if entryValid s.ports[p].entry then s.ports[p].entry ||| 2 else s.ports[p].entry) :
    TwinPort s u p := by
  obtain ⟨hvalid, htype, hwide, hoffset, hpres⟩ := entry_or_dir s.ports[p].entry
  have hen : ∀ e, entryValid e = entryValid s.ports[p].entry → entryPres e = entryPres s.ports[p].entry →
      u.ports[p].entry = e → u.portEnabled p = s.portEnabled p := by
    rintro e hv hp rfl
    rw [State.portEnabled, State.portEnabled, State.entryEnabled, State.entryEnabled, hv, hp, hparams, htier, hopt]
  split at hentry
  · exact ⟨hentry ▸ hvalid, hentry ▸ htype, hentry ▸ hwide, hentry ▸ hoffset, hen _ hvalid hpres hentry⟩
  · exact ⟨by rw [hentry], by rw [hentry], by rw [hentry], by rw [hentry], hen _ rfl rfl hentry⟩

section
variable {s u : State} {p : Fin 64} (h : TwinPort s u p)
include h

theorem TwinPort.width : entryWidth u.ports[p].entry = entryWidth s.ports[p].entry := by
  rw [entryWidth, entryWidth, h.wide]

/-- A port that holds the samples captured from a packet's slots plays those slots again. -/
theorem TwinPort.slotContent_captured (hen : s.portEnabled p = true) (htype : entryType s.ports[p].entry ≠ .midi) {N : Nat}
    (hpf : u.ports[p].pf = (List.range N).map (s.slotSample p)) {k j : Nat} (hk : k < N)
    (hj : j < entryWidth s.ports[p].entry) :
    (u.slotContent p k)[j]? = some (s.txbByte (s.slotAddress p k + j)) := by
  have hsample : u.ports[p].pf[k]? = some (s.slotSample p k) := by
    rw [hpf, List.getElem?_map, List.getElem?_range hk]
    rfl
  rw [State.slotContent_of_sample (h.type ▸ htype), h.enabled, if_pos hen, hsample, h.wide]
  exact s.sampleBytes_slotSample p k hj

/-- A MIDI port without a byte to send plays the no-data label (R416). -/
theorem TwinPort.slotContent_noData (htype : entryType s.ports[p].entry = .midi) (heq : u.ports[p].eq = []) (k : Nat) :
    (u.slotContent p k)[0]? = some 0x80 := by
  rw [State.slotContent_of_midi (h.type.trans htype), heq, List.getElem?_nil, ite_self]
  rfl

end

end Sys2Proof.Machine
end

section
open Sys2Proof Sys2Proof.Machine

/-- Settles O21, check by check; past them the loop writes behind the header. -/
theorem spMuxBuildsAPacket : Obligations.SpMuxBuildsAPacket := by
  refine ⟨rfl, ?_⟩
  intro s N y L
  refine ite_of_eq_ite (execSpMux_eq s) id fun hexec => ?_
  by_cases hargs : 2 ^ 16 ≤ N ∨ 2 ^ 16 ≤ y
  · rw [if_pos hargs] at hexec ⊢
    exact hexec
  rw [if_neg hargs] at hexec ⊢
  refine ite_of_eq_ite hexec id fun hexec => ?_
  have hy : (s.arg[1].setWidth 16).toNat = y := toNat_setWidth_of_lt (by omega)
  have hplays := s.muxPacket_playsOnly N (s.arg[1].setWidth 16)
  refine ⟨(s.muxPacket N (s.arg[1].setWidth 16)).txb, (s.muxPacket N (s.arg[1].setWidth 16)).ports,
    (s.muxPacket N (s.arg[1].setWidth 16)).counters.portUnf, fun p => ⟨hplays.entry p, hplays.mq p, hplays.md p⟩,
    hexec.trans (s.muxPacket_succeeds ..), ?_⟩
  rw [State.muxPacket_header, State.muxHeader, txHeader_bytes, hy]
  rfl

/-- Settles O23: SP_MUX fills each slot with what the twin port holds, which is what SP_DEMUX took from that slot. -/
theorem muxRebuildsTheDemultiplexedPacket : Obligations.MuxRebuildsTheDemultiplexedPacket := by
  intro s t u v N hs hu hparams hdim htier hopt hentries hempty hroom hdemux hdemuxed hmoved harg hmux hmuxed p k hen hk a
  have htwin := twinPort_of_entry hparams htier hopt (hentries p)
  obtain ⟨-, hvalid⟩ := State.portEnabled_valid hen
  obtain ⟨hports, -⟩ := demuxServesEveryPort s t hdemux hdemuxed
  obtain ⟨hslots, -⟩ := muxFillsEverySlot u v hu hmux hmuxed
  have hslot : ∀ j, j < entryWidth s.ports[p].entry → lookupAt v.txb (a + j) = (u.slotContent p k)[j]? := by
    intro j hj
    have hbyte := hslots p k j (htwin.valid.trans hvalid) (harg ▸ hk) (htwin.width ▸ hj)
    rw [htwin.offset, hdim] at hbyte
    exact hbyte
  refine ⟨fun htype j hj => ?_, fun htype heq _ => ?_⟩
  · have hkind : entryType s.ports[p].entry = .audio ∨ entryType s.ports[p].entry = .control := by
      have hreserved := hs.not_reserved hvalid
      cases hk : entryType s.ports[p].entry with
      | audio => exact .inl rfl
      | control => exact .inr rfl
      | midi => exact absurd hk htype
      | reserved => exact absurd hk hreserved
    have hpf : u.ports[p].pf = (List.range N).map (s.slotSample p) := by
      rw [hmoved p htype, hports p]
      exact State.capturedPort_pf hen hkind (hempty p) hroom
    rw [hslot j hj]
    exact htwin.slotContent_captured hen htype hpf hk hj
  · have hbyte := hslot 0 (by rw [entryWidth]; split <;> decide)
    rw [Nat.add_zero] at hbyte
    rw [hbyte]
    exact htwin.slotContent_noData htype heq k

end

section
/-! PROOFS. The commands of the configuration, the port table and the sample queues by their checks on the numbers in ARG
(R361 to R365). For O10 to O14. -/

namespace Sys2Proof.Machine

/-! ### Statements that go by a command's checks -/

/-- `ite_of_eq_ite` for a check that the statement says in other words. -/
theorem ite_of_eq_ite_iff {α : Type} {c d P Q : Prop} [Decidable c] [Decidable d] {r a b : α} (hd : d ↔ c)
    (hr : r = if c then a else b) (hpos : r = a → P) (hneg : r = b → Q) : if d then P else Q :=
  ite_of_eq_ite (hr.trans (if_congr hd.symm rfl rfl)) hpos hneg

/-- `ite_of_eq_ite` for a check that the command makes the other way round. -/
theorem ite_of_eq_ite_not {α : Type} {c d P Q : Prop} [Decidable c] [Decidable d] {r a b : α} (hd : d ↔ ¬c)
    (hr : r = if c then a else b) (hpos : r = b → P) (hneg : r = a → Q) : if d then P else Q :=
  ite_of_eq_ite_iff hd (hr.trans (ite_not c b a).symm) hpos hneg

/-- The check of the port operand (R181). -/
theorem State.ite_of_argPort {s : State} {P Q : Prop} (hnone : s.argPort = none → P)
    (hsome : s.argPort = some (Fin.ofNat 64 s.arg[0].toNat) → Q) :
    if 64 ≤ s.arg[0].toNat ∨ s.params.nPorts ≤ s.arg[0].toNat then P else Q := by
  split
  · exact hnone (State.argPort_none ‹_›)
  · exact hsome (State.argPort_of_lt ‹_›)

/-! ### SET_CONFIG (R361) -/

/-- The tier whose code is `n`, for the codes below 3 (R51). -/
def tierOfNat (n : Nat) : Tier := if n = 0 then .x1 else if n = 1 then .x2 else .x4

/-- The optical mode whose code is `n`, for the codes below 3 (R51). -/
def optModeOfNat (n : Nat) : OptMode := if n = 0 then .none else if n = 1 then .adat else .toslink

theorem tierOf_eq_some {b : BitVec 2} {t : Tier} : tierOf b = some t ↔ b.toNat < 3 ∧ tierOfNat b.toNat = t := by
  cases t <;> revert b <;> decide

theorem optModeOf_eq_some {b : BitVec 2} {o : OptMode} :
    optModeOf b = some o ↔ b.toNat < 3 ∧ optModeOfNat b.toNat = o := by
  cases o <;> revert b <;> decide

/-- The index of a configuration in SUPPORTED by its codes (R55). -/
theorem configIndex_ofNat {n m : Nat} (hn : n < 3) (hm : m < 3) :
    configIndex (tierOfNat n) (optModeOfNat m) = 3 * m + n := by
  interval_cases n <;> interval_cases m <;> rfl

/-- SET_CONFIG by its checks (R361). -/
theorem execSetConfig_eq (s : State) :
    execSetConfig s =
      if 3 ≤ s.arg[0].toNat ∨ 3 ≤ s.arg[1].toNat then s.fails .eArg
      else if s.supported.getLsbD (3 * s.arg[1].toNat + s.arg[0].toNat) = false then s.fails .eConfig
      else { s with tier := tierOfNat s.arg[0].toNat, opt := optModeOfNat s.arg[1].toNat }.succeeds := by
  rw [execSetConfig]
  split
  · next a b ha hb =>
    obtain ⟨hlt0, ha⟩ := State.argField_some ha
    obtain ⟨hlt1, hb⟩ := State.argField_some hb
    have htoNat0 : a.toNat = s.arg[0].toNat := ha ▸ toNat_setWidth_of_lt hlt0
    have htoNat1 : b.toNat = s.arg[1].toNat := hb ▸ toNat_setWidth_of_lt hlt1
    split
    · next tier opt htier hopt =>
      obtain ⟨h0, rfl⟩ := tierOf_eq_some.mp htier
      obtain ⟨h1, rfl⟩ := optModeOf_eq_some.mp hopt
      rw [htoNat0] at h0
      rw [htoNat1] at h1
      have hin : ¬(3 ≤ s.arg[0].toNat ∨ 3 ≤ s.arg[1].toNat) := not_or.mpr ⟨not_le.mpr h0, not_le.mpr h1⟩
      refine Eq.trans ?_ (if_neg hin).symm
      rw [htoNat0, htoNat1, configIndex_ofNat h0 h1]
      cases s.supported.getLsbD (3 * s.arg[1].toNat + s.arg[0].toNat) <;> rfl
    · next hnone =>
      have hout : 3 ≤ s.arg[0].toNat ∨ 3 ≤ s.arg[1].toNat := by
        by_contra! hlt
        rw [← htoNat0, ← htoNat1] at hlt
        exact hnone _ _ (tierOf_eq_some.mpr ⟨hlt.1, rfl⟩) (optModeOf_eq_some.mpr ⟨hlt.2, rfl⟩)
      exact (if_pos hout).symm
  · next hnone =>
    have hout : 2 ^ 2 ≤ s.arg[0].toNat ∨ 2 ^ 2 ≤ s.arg[1].toNat := by
      by_contra! hlt
      exact hnone _ _ (State.argField_of_lt hlt.1) (State.argField_of_lt hlt.2)
    exact (if_pos (by omega)).symm

/-! ### Entries (R176, R362) -/

/-- ADD_PORT's check 3 by the fields of the entry. -/
theorem entryRefused_iff (e : Word) :
    (e.getLsbD 0 = true ∨ e.getLsbD 5 = true ∨ e.extractLsb' 6 2 ≠ 0 ∨ e.extractLsb' 27 5 ≠ 0 ∨
      e.extractLsb' 2 2 = 3) ↔ (e &&& entryMustBeZero ≠ 0 ∨ entryType e = .reserved) := by
  rw [ne_eq (e &&& entryMustBeZero), entryMustBeZero_clear, entryType_reserved]
  simp only [not_and_or, Bool.not_eq_false, or_assoc, ne_eq]

theorem entryDir_ne_iff (e : Word) (d : Direction) :
    ((e.getLsbD 1 = true ∧ d = .rx) ∨ (e.getLsbD 1 = false ∧ d = .tx)) ↔ entryDir e ≠ d := by
  rw [entryDir_eq]
  cases e.getLsbD 1 <;> cases d <;> decide

/-- ADD_PORT's check 7 by the slots of the other valid ports. -/
theorem State.overlapsOther_iff (s : State) (p : Fin 64) (e : Word) :
    s.overlapsOther p e = true ↔ ∃ q : Fin 64, q.val < s.params.nPorts ∧ q ≠ p ∧
      s.ports[q].entry.getLsbD 0 = true ∧
      entryOffset e < entryOffset s.ports[q].entry + entryWidth s.ports[q].entry ∧
      entryOffset s.ports[q].entry < entryOffset e + entryWidth e := by
  simp only [State.overlapsOther, List.any_eq_true, List.mem_finRange, true_and, Bool.and_eq_true, decide_eq_true_eq,
    slotsOverlap, entryValid, and_assoc]

end Sys2Proof.Machine
end

section
open Sys2Proof Sys2Proof.Machine

/-- Settles O10, check by check. -/
theorem setConfigChoosesASupportedConfiguration : Obligations.SetConfigChoosesASupportedConfiguration := by
  refine ⟨rfl, fun s => ?_⟩
  refine ite_of_eq_ite (execSetConfig_eq s) id fun hexec => ?_
  exact ite_of_eq_ite hexec id id

/-- Settles O11, check by check. -/
theorem addPortChecksAndStores : Obligations.AddPortChecksAndStores := by
  refine ⟨rfl, ?_⟩
  intro s p e width offset
  have hwidth : ∀ f, width f = entryWidth f := fun f => (entryWidth_eq f).symm
  refine ite_of_eq_ite (execAddPort.eq_def s) id fun hexec => ?_
  refine State.ite_of_argPort (fun hp => ?_) fun hp => ?_ <;> rw [hp] at hexec
  · exact hexec
  refine ite_of_eq_ite_iff (entryRefused_iff e) hexec id fun hexec => ?_
  refine ite_of_eq_ite_iff (entryDir_ne_iff e s.dir) hexec id fun hexec => ?_
  refine ite_of_eq_ite_iff (and_congr_left' entryType_midi.symm) hexec id fun hexec => ?_
  have hfits : 4 * s.dim.toNat < offset e + width e ↔ 4 * s.dim.toNat < entryOffset e + entryWidth e := by
    rw [hwidth]
    rfl
  refine ite_of_eq_ite_iff hfits hexec id fun hexec => ?_
  refine ite_of_eq_ite_iff (and_congr_right' ?_) hexec id id
  simp only [hwidth]
  exact (s.overlapsOther_iff p e).symm

/-- Settles O12, check by check. -/
theorem removePortEmptiesTheEntry : Obligations.RemovePortEmptiesTheEntry := by
  refine ⟨rfl, ?_⟩
  intro s p
  refine ite_of_eq_ite (execRemovePort.eq_def s) id fun hexec => ?_
  refine State.ite_of_argPort (fun hp => ?_) fun hp => ?_ <;> rw [hp] at hexec
  · exact hexec
  exact ite_of_eq_ite_not (Bool.not_eq_true _).symm.to_iff hexec id id

/-- Settles O13, check by check; past them the FIFO has a head. -/
theorem portReadTakesTheOldestSample : Obligations.PortReadTakesTheOldestSample := by
  refine ⟨rfl, ?_⟩
  intro s p e
  refine ite_of_eq_ite (execPortRead.eq_def s) id fun hexec => ?_
  refine State.ite_of_argPort (fun hp => ?_) fun hp => ?_ <;> rw [hp] at hexec
  · exact hexec
  have hport := isSamplePort_rx_false (e := e)
  rw [← Bool.not_eq_true] at hport
  refine ite_of_eq_ite_not hport.symm hexec id fun hexec => ?_
  cases hpf : s.ports[p].pf with
  | nil =>
    rw [hpf] at hexec
    exact hexec
  | cons v rest =>
    rw [hpf] at hexec
    rintro _ _ ⟨⟩
    rw [← res_set_zero]
    exact hexec

/-- Settles O14, check by check. -/
theorem portWriteQueuesTheSample : Obligations.PortWriteQueuesTheSample := by
  refine ⟨rfl, ?_⟩
  intro s p e
  refine ite_of_eq_ite (execPortWrite.eq_def s) id fun hexec => ?_
  refine State.ite_of_argPort (fun hp => ?_) fun hp => ?_ <;> rw [hp] at hexec
  · exact hexec
  have hport := isSamplePort_tx_false (e := e)
  rw [← Bool.not_eq_true] at hport
  refine ite_of_eq_ite_not hport.symm hexec id fun hexec => ?_
  have hbig : 2 ^ 24 ≤ s.arg[1].toNat ↔ s.arg[1].extractLsb' 24 8 ≠ 0 := by
    rw [ne_eq, topByte_eq_zero_iff]
    exact Nat.not_lt.symm
  refine ite_of_eq_ite_iff (and_congr_right' hbig) hexec id fun hexec => ?_
  exact ite_of_eq_ite hexec id id

end

section
/-! PROOFS. The MIDI decoder by the byte classes of the length table, and message words by their bytes (R410, R411, R177,
R415). For O24 to O28. -/

namespace Sys2Proof.Machine

/-! ### The length table by byte classes (R410) -/

/-- Real-time messages and tune request have no data byte. -/
theorem datalen_eq_zero {b : Byte} : datalen b = some 0 ↔ b = 0xF6 ∨ 0xF8 ≤ b.toNat := by
  unfold datalen
  dsimp only
  split_ifs <;> simp [BitVec.toNat_eq] <;> omega

theorem datalen_eq_one {b : Byte} :
    datalen b = some 1 ↔ (0xC0 ≤ b.toNat ∧ b.toNat ≤ 0xDF) ∨ b = 0xF1 ∨ b = 0xF3 := by
  unfold datalen
  dsimp only
  split_ifs <;> simp [BitVec.toNat_eq] <;> omega

theorem datalen_eq_two {b : Byte} :
    datalen b = some 2 ↔ (0x80 ≤ b.toNat ∧ b.toNat < 0xC0) ∨ (0xE0 ≤ b.toNat ∧ b.toNat < 0xF0) ∨ b = 0xF2 := by
  unfold datalen
  dsimp only
  split_ifs <;> simp [BitVec.toNat_eq] <;> omega

/-- A status byte whose message has data bytes is no real-time byte. -/
theorem lt_realTime_of_datalen {b : Byte} (h : datalen b = some 1 ∨ datalen b = some 2) : b.toNat < 0xF8 := by
  by_contra! hrealTime
  rw [datalen_of_realTime hrealTime] at h
  simp at h

/-! ### Message words by their bytes (R177, R415) -/

theorem midiWord_eq_ofNat (len : BitVec 2) (b0 b1 b2 : Byte) :
    midiWord len b0 b1 b2 =
      BitVec.ofNat 32 (len.toNat * 2 ^ 24 + b0.toNat * 2 ^ 16 + b1.toNat * 2 ^ 8 + b2.toNat) := by
  apply BitVec.eq_of_toNat_eq
  simp only [midiWord, toNat_append_add, BitVec.toNat_ofNat]
  omega

/-- A word whose reserved bits are 0 is its length and its bytes. -/
theorem midiWord_of_fields {m : Word} (h : m.extractLsb' 26 6 = 0) :
    midiWord (m.extractLsb' 24 2) (midiB0 m) (midiB1 m) (midiB2 m) = m := by
  have hm := m.isLt
  have hzero : m.toNat / 2 ^ 26 % 2 ^ 6 = 0 := by
    simpa [Nat.shiftRight_eq_div_pow] using congrArg BitVec.toNat h
  apply BitVec.eq_of_toNat_eq
  simp only [midiWord_eq_ofNat, midiB0, midiB1, midiB2, BitVec.toNat_ofNat, BitVec.extractLsb'_toNat,
    Nat.shiftRight_eq_div_pow]
  omega

theorem midiBytes_midiWord (len : BitVec 2) (b0 b1 b2 : Byte) :
    midiBytes (midiWord len b0 b1 b2) = [b0, b1, b2].take len.toNat := by
  obtain ⟨hlen, hb0, hb1, hb2, -⟩ := midiWord_fields len b0 b1 b2
  rw [midiBytes, hlen, hb0, hb1, hb2]

/-- Check 4 of R415, part by part. -/
theorem midiWordLegal_iff {m : Word} :
    midiWordLegal m = true ↔ m.extractLsb' 26 6 = 0 ∧ 0x80 ≤ (midiB0 m).toNat ∧ midiUnsupported (midiB0 m) = false ∧
      (datalen (midiB0 m)).map (· + 1) = some (midiLen m) ∧
      (if 2 ≤ midiLen m then (midiB1 m).toNat < 0x80 else midiB1 m = 0) ∧
      (if 3 ≤ midiLen m then (midiB2 m).toNat < 0x80 else midiB2 m = 0) := by
  simp only [midiWordLegal, Bool.and_eq_true, decide_eq_true_eq, Bool.not_eq_true', Bool.ite_eq_true_distrib, and_assoc]

/-- The legal message words: a status byte with the data bytes it asks for, and 0 in place of those it does not. -/
inductive LegalMessage : Word → Prop
  | whole {b0 : Byte} : datalen b0 = some 0 → LegalMessage (midiWord 1 b0 0 0)
  | oneData {b0 b1 : Byte} : datalen b0 = some 1 → b1.toNat < 0x80 → LegalMessage (midiWord 2 b0 b1 0)
  | twoData {b0 b1 b2 : Byte} :
    datalen b0 = some 2 → b1.toNat < 0x80 → b2.toNat < 0x80 → LegalMessage (midiWord 3 b0 b1 b2)

theorem legalMessage_of_legal {m : Word} (h : midiWordLegal m = true) : LegalMessage m := by
  obtain ⟨hzero, -, -, hlen, hb1, hb2⟩ := midiWordLegal_iff.mp h
  obtain ⟨n, hn, hsucc⟩ := Option.map_eq_some_iff.mp hlen
  have hlen2 : m.extractLsb' 24 2 = BitVec.ofNat 2 (n + 1) := by
    rw [hsucc, midiLen, BitVec.ofNat_toNat, BitVec.setWidth_eq]
  obtain ⟨-, -, hle⟩ := datalen_some hn
  rw [← hsucc] at hb1 hb2
  rw [← midiWord_of_fields hzero, hlen2]
  obtain rfl | rfl | rfl : n = 0 ∨ n = 1 ∨ n = 2 := by omega
  · rw [show midiB1 m = 0 from hb1, show midiB2 m = 0 from hb2]
    exact .whole hn
  · rw [show midiB2 m = 0 from hb2]
    exact .oneData hn hb1
  · exact .twoData hn hb1 hb2

/-! ### One byte to a decoder (R411) -/

/-- The running status a status byte leaves: a channel status sets it, any other clears it. -/
def runningStatus (b : Byte) : Byte := if b.toNat < 0xF0 then b else 0

/-- The discards a status byte counts for the message in progress. -/
def MidiDecoder.dropped (md : MidiDecoder) : Nat := if md.ms = .awaitStatus then 0 else 1

section
variable {md : MidiDecoder} {b : Byte}

theorem feedByte_realTime (hb : 0xF8 ≤ b.toNat) :
    feedByte md b = { md := md, msg := some (midiWord 1 b 0 0), discards := 0 } := if_pos hb

theorem feedByte_status (hlow : 0x80 ≤ b.toNat) (hhigh : b.toNat < 0xF8) : feedByte md b = feedStatus md b :=
  (if_neg (Nat.not_le.mpr hhigh)).trans (if_pos hlow)

theorem feedByte_unsupported (hb : midiUnsupported b = true) :
    feedByte md b = { md := MidiDecoder.idle, msg := none, discards := md.dropped + 1 } := by
  have hrange := midiUnsupported_eq_true.mp hb
  rw [feedByte_status (by omega) (by omega)]
  exact if_pos hb

theorem feedByte_tuneRequest :
    feedByte md 0xF6 = { md := MidiDecoder.idle, msg := some (midiWord 1 0xF6 0 0), discards := md.dropped } := rfl

/-- A status byte that asks for data starts a message and drops the one in progress. -/
theorem feedByte_start (hb : datalen b = some 1 ∨ datalen b = some 2) :
    feedByte md b =
      { md := { ms := .awaitData1, rsb := runningStatus b, cur := b, d1 := 0 }, msg := none,
        discards := md.dropped } := by
  obtain ⟨n, hn⟩ : ∃ n, datalen b = some n := hb.elim (⟨_, ·⟩) (⟨_, ·⟩)
  obtain ⟨hstatus, hsupported, -⟩ := datalen_some hn
  have hdata : datalen b ≠ some 0 := by rcases hb with hb | hb <;> simp [hb]
  rw [feedByte_status hstatus (lt_realTime_of_datalen hb)]
  exact (if_neg (Bool.not_eq_true _ ▸ hsupported)).trans (if_neg hdata)

/-- A channel status is the running status it leaves. -/
theorem feedByte_channel (hlow : 0x80 ≤ b.toNat) (hhigh : b.toNat < 0xF0) :
    feedByte md b =
      { md := { ms := .awaitData1, rsb := b, cur := b, d1 := 0 }, msg := none, discards := md.dropped } := by
  rw [feedByte_start (datalen_of_channel hlow hhigh), runningStatus, if_pos hhigh]

theorem feedByte_data (hb : b.toNat < 0x80) : feedByte md b = feedData md b :=
  (if_neg (by omega)).trans (if_neg (Nat.not_le.mpr hb))

/-- The only data byte of a message. -/
theorem feedByte_onlyData (hb : b.toNat < 0x80) (hms : md.ms = .awaitData1) (hlen : datalen md.cur = some 1) :
    feedByte md b =
      { md := { md with ms := .awaitStatus, cur := 0 }, msg := some (midiWord 2 md.cur b 0), discards := 0 } := by
  rw [feedByte_data hb, feedData, hms]
  exact if_pos hlen

/-- The first of two data bytes. -/
theorem feedByte_firstData (hb : b.toNat < 0x80) (hms : md.ms = .awaitData1) (hlen : datalen md.cur ≠ some 1) :
    feedByte md b = { md := { md with ms := .awaitData2, d1 := b }, msg := none, discards := 0 } := by
  rw [feedByte_data hb, feedData, hms]
  exact if_neg hlen

/-- The second of two data bytes. -/
theorem feedByte_secondData (hb : b.toNat < 0x80) (hms : md.ms = .awaitData2) :
    feedByte md b =
      { md := { md with ms := .awaitStatus, cur := 0, d1 := 0 }, msg := some (midiWord 3 md.cur md.d1 b),
        discards := 0 } := by
  rw [feedByte_data hb, feedData, hms]

/-- A data byte between messages without running status. -/
theorem feedByte_stray (hb : b.toNat < 0x80) (hms : md.ms = .awaitStatus) (hrsb : md.rsb = 0) :
    feedByte md b = { md := md, msg := none, discards := 1 } := by
  rw [feedByte_data hb, feedData, hms]
  exact if_pos hrsb

/-- A data byte that is a whole message by running status. -/
theorem feedByte_runningOnly (hb : b.toNat < 0x80) (hms : md.ms = .awaitStatus) (hrsb : md.rsb ≠ 0)
    (hlen : datalen md.rsb = some 1) :
    feedByte md b = { md := { md with cur := 0 }, msg := some (midiWord 2 md.rsb b 0), discards := 0 } := by
  rw [feedByte_data hb, feedData, hms]
  exact (if_neg hrsb).trans (if_pos hlen)

/-- A data byte that starts a message by running status. -/
theorem feedByte_runningFirst (hb : b.toNat < 0x80) (hms : md.ms = .awaitStatus) (hrsb : md.rsb ≠ 0)
    (hlen : datalen md.rsb ≠ some 1) :
    feedByte md b = { md := { md with ms := .awaitData2, cur := md.rsb, d1 := b }, msg := none, discards := 0 } := by
  rw [feedByte_data hb, feedData, hms]
  exact (if_neg hrsb).trans (if_neg hlen)

end

/-! ### Whole messages to a decoder between messages (R417) -/

theorem MidiDecoder.dropped_awaitStatus {md : MidiDecoder} (h : md.ms = .awaitStatus) : md.dropped = 0 := if_pos h

theorem MidiDecoder.dropped_inMessage {md : MidiDecoder} (h : md.ms ≠ .awaitStatus) : md.dropped = 1 := if_neg h

section
variable {md : MidiDecoder} {st d1 d2 : Byte} (hms : md.ms = .awaitStatus)
include hms

theorem feedBytes_whole (hlen : datalen st = some 0) :
    (feedBytes md [st]).1.ms = .awaitStatus ∧ (feedBytes md [st]).2 = ([midiWord 1 st 0 0], 0) := by
  rw [feedBytes_single]
  rcases datalen_eq_zero.mp hlen with rfl | hrealTime
  · rw [feedByte_tuneRequest, MidiDecoder.dropped_awaitStatus hms]
    exact ⟨rfl, rfl⟩
  · rw [feedByte_realTime hrealTime]
    exact ⟨hms, rfl⟩

theorem feedBytes_oneData (hlen : datalen st = some 1) (h1 : d1.toNat < 0x80) :
    feedBytes md [st, d1] =
      ({ ms := .awaitStatus, rsb := runningStatus st, cur := 0, d1 := 0 }, [midiWord 2 st d1 0], 0) := by
  simp [feedBytes, feedByte_start (.inl hlen), feedByte_onlyData h1, hlen, MidiDecoder.dropped_awaitStatus hms]

theorem feedBytes_firstOfTwo (hlen : datalen st = some 2) (h1 : d1.toNat < 0x80) :
    feedBytes md [st, d1] = ({ ms := .awaitData2, rsb := runningStatus st, cur := st, d1 := d1 }, [], 0) := by
  simp [feedBytes, feedByte_start (.inr hlen), feedByte_firstData h1, hlen, MidiDecoder.dropped_awaitStatus hms]

theorem feedBytes_twoData (hlen : datalen st = some 2) (h1 : d1.toNat < 0x80) (h2 : d2.toNat < 0x80) :
    feedBytes md [st, d1, d2] =
      ({ ms := .awaitStatus, rsb := runningStatus st, cur := 0, d1 := 0 }, [midiWord 3 st d1 d2], 0) := by
  rw [show [st, d1, d2] = [st, d1] ++ [d2] from rfl, feedBytes_append, feedBytes_firstOfTwo hms hlen h1, feedBytes_single,
    feedByte_secondData h2 rfl]
  rfl

/-- The bytes of one legal message complete that message and leave the decoder between messages. -/
theorem feedBytes_midiBytes {m : Word} (hm : LegalMessage m) :
    (feedBytes md (midiBytes m)).1.ms = .awaitStatus ∧ (feedBytes md (midiBytes m)).2 = ([m], 0) := by
  cases hm with
  | whole hlen =>
    rw [midiBytes_midiWord]
    exact feedBytes_whole hms hlen
  | oneData hlen h1 =>
    rw [midiBytes_midiWord]
    exact ⟨congrArg (·.1.ms) (feedBytes_oneData hms hlen h1), congrArg (·.2) (feedBytes_oneData hms hlen h1)⟩
  | twoData hlen h1 h2 =>
    rw [midiBytes_midiWord]
    exact ⟨congrArg (·.1.ms) (feedBytes_twoData hms hlen h1 h2), congrArg (·.2) (feedBytes_twoData hms hlen h1 h2)⟩

end

/-- Decoding inverts encoding, message by message; running status plays no part, as every message begins with its status
byte. -/
theorem feedBytes_flatMap_midiBytes {md : MidiDecoder} (hms : md.ms = .awaitStatus) {ms : List Word}
    (hlegal : ∀ m ∈ ms, midiWordLegal m = true) : (feedBytes md (ms.flatMap midiBytes)).2 = (ms, 0) := by
  induction ms generalizing md with
  | nil => rfl
  | cons m ms ih =>
    obtain ⟨hm, hrest⟩ := List.forall_mem_cons.mp hlegal
    obtain ⟨hms', hfed⟩ := feedBytes_midiBytes hms (legalMessage_of_legal hm)
    rw [List.flatMap_cons, feedBytes_append, hfed, ih hms' hrest]
    rfl

end Sys2Proof.Machine
end

section
open Sys2Proof Sys2Proof.Machine

/-- Settles O26, property by property of R417. -/
theorem midiDecoderProperties : Obligations.MidiDecoderProperties := by
  refine ⟨fun md st d1 d2 hms hlen _ h1 h2 => ⟨?_, ?_⟩, fun md st hms hlow hhigh => ?_, fun md b hmd => ?_,
    fun ms md hlegal hms _ => ?_⟩
  · rw [feedBytes_firstOfTwo hms hlen h1]
  · rw [feedBytes_twoData hms hlen h1 h2]
  · rw [feedByte_channel hlow (Nat.lt_succ_of_le hhigh), MidiDecoder.dropped_inMessage hms]
    exact ⟨rfl, rfl, rfl⟩
  · obtain ⟨hsound, hmsg⟩ := feedByte_sound hmd b
    exact ⟨hsound, hmsg⟩
  · rw [feedBytes_flatMap_midiBytes hms hlegal]
    exact ⟨rfl, rfl⟩

/-- Settles O25, by one rule per byte class and decoder state. -/
theorem midiDecoderFollowsTheTable : Obligations.MidiDecoderFollowsTheTable := by
  intro md b word oneData dropped
  have hword : ∀ (len : BitVec 2) (b0 b1 b2 : Byte), midiWord len b0 b1 b2 = word len.toNat b0 b1 b2 := midiWord_eq_ofNat
  have hone : ∀ st : Byte, datalen st = some 1 ↔ oneData st := fun _ => datalen_eq_one
  refine ⟨fun hb => ?_, fun hb => ?_, fun hb => ?_, fun hb => ?_, fun hlow hhigh => ?_, fun hb => ⟨fun hms hrsb => ?_,
    fun hms hrsb hlen => ?_, fun hms hrsb hlen => ?_, fun hms hlen => ?_, fun hms hlen => ?_, fun hms => ?_⟩⟩
  · rw [feedByte_realTime hb, hword]
    rfl
  · exact feedByte_unsupported (decide_eq_true hb)
  · subst hb
    rw [feedByte_tuneRequest, hword]
    rfl
  · rcases hb with rfl | rfl | rfl <;> rfl
  · exact feedByte_channel hlow hhigh
  · exact feedByte_stray hb hms hrsb
  · rw [feedByte_runningOnly hb hms hrsb ((hone _).mpr hlen), hword]
    rfl
  · exact feedByte_runningFirst hb hms hrsb (mt (hone _).mp hlen)
  · rw [feedByte_onlyData hb hms ((hone _).mpr hlen), hword]
    rfl
  · exact feedByte_firstData hb hms (mt (hone _).mp hlen)
  · rw [feedByte_secondData hb hms, hword]
    rfl

end

section
/-! PROOFS. The MIDI commands by their checks on the numbers in ARG (R413 to R415). For O24, O27 and O28. -/

namespace Sys2Proof.Machine

/-! ### MIDI_DECODE (R413) -/

section
variable {α : Type} (depth : Nat) (queue : List α) (x : Option α)

/-- A message that may have been completed, offered to a queue. -/
theorem offered_toList :
    offered depth queue x.toList = queue ++ if decide (queue.length < depth) = true then x.toList else [] := by
  cases x with
  | none => simp
  | some a =>
    rw [Option.toList_some, offered_single]
    by_cases hroom : queue.length < depth <;> simp [hroom]

theorem ofNat_turnedAway_toList :
    BitVec.ofNat 32 (turnedAway depth queue x.toList) =
      if (x.isSome && !decide (queue.length < depth)) = true then 1 else 0 := by
  cases x with
  | none => simp
  | some a =>
    rw [Option.toList_some, turnedAway_single]
    by_cases hroom : queue.length < depth <;> simp [hroom]

end

/-- MIDI_DECODE by its checks (R413). -/
theorem execMidiDecode_eq (s : State) :
    execMidiDecode s =
      if s.lc = .closed then s.fails .eState
      else if 64 ≤ s.arg[0].toNat ∨ s.params.nPorts ≤ s.arg[0].toNat ∨ 256 ≤ s.arg[1].toNat then s.fails .eArg
      else if isMidiPort .rx s.ports[Fin.ofNat 64 s.arg[0].toNat].entry = false then s.fails .ePort
      else
        let p := Fin.ofNat 64 s.arg[0].toNat
        let b := s.arg[1].setWidth 8
        let m := (feedByte s.ports[p].md b).msg
        (((s.midiFeed p b).withRes 0 (if m.isSome then 1 else 0)).withRes 1 (m.getD 0)).succeeds := by
  rw [execMidiDecode]
  refine if_congr Iff.rfl rfl ?_
  by_cases hport : 64 ≤ s.arg[0].toNat ∨ s.params.nPorts ≤ s.arg[0].toNat
  · rw [State.argPort_none hport, if_pos (or_assoc.mp (.inl hport))]
  by_cases hbyte : 256 ≤ s.arg[1].toNat
  · have hnone : s.argField 1 8 = none := State.argField_of_ge hbyte
    rw [hnone, if_pos (.inr (.inr hbyte))]
    cases s.argPort <;> rfl
  have hsome : s.argField 1 8 = some (s.arg[1].setWidth 8) := State.argField_of_lt (Nat.not_le.mp hbyte)
  rw [State.argPort_of_lt hport, hsome, if_neg (mt or_assoc.mpr (not_or.mpr ⟨hport, hbyte⟩))]
  exact (if_congr (Bool.not_eq_false _).symm.to_iff rfl rfl).trans (ite_not ..)

/-- MIDI_DECODE past its checks: the port's decoder and queue, the two counters and the two results (R412, R413). -/
theorem State.midiFeed_succeeds (s : State) (p : Fin 64) (b : Byte) (v w : Word) :
    (((s.midiFeed p b).withRes 0 v).withRes 1 w).succeeds =
      let r := feedByte s.ports[p].md b
      let room := decide (s.ports[p].mq.length < s.params.midiMsgDepth)
      .next { s with
        ports := s.ports.set p.val
          { s.ports[p] with md := r.md, mq := s.ports[p].mq ++ if room then r.msg.toList else [] } p.isLt
        counters := { s.counters with
          midiDiscard := s.counters.midiDiscard + BitVec.ofNat 32 r.discards
          portOvf := s.counters.portOvf + (if r.msg.isSome && !room then 1 else 0) }
        res := #v[v, w, s.res[2], s.res[3]], err := .ok } := by
  rw [State.midiFeed_eq, Port.takeMidi, Port.midiTurnedAway, feedBytes_single, offered_toList, State.takenIn,
    ofNat_turnedAway_toList, ← res_set_two]
  rfl

/-! ### MIDI_ENCODE (R415) -/

theorem midiLen_eq (m : Word) : midiLen m = m.toNat / 2 ^ 24 % 4 := by
  rw [midiLen, BitVec.extractLsb'_toNat, Nat.shiftRight_eq_div_pow]

/-- The length of the message a status byte begins (R410). -/
def messageLength (b0 : Byte) : Nat :=
  if b0.toNat < 0xC0 ∨ (0xE0 ≤ b0.toNat ∧ b0.toNat < 0xF0) ∨ b0 = 0xF2 then 3
  else if b0.toNat < 0xE0 ∨ b0 = 0xF1 ∨ b0 = 0xF3 then 2 else 1

/-- The length is that of the table, for the status bytes it supports. -/
theorem datalen_succ {b : Byte} (hstatus : 0x80 ≤ b.toNat) (hsupported : midiUnsupported b = false) :
    (datalen b).map (· + 1) = some (messageLength b) := by
  have hlen := datalen_of_supported hstatus hsupported
  rw [datalen_eq_zero, datalen_eq_one, datalen_eq_two] at hlen
  unfold messageLength
  split
  · next htwo =>
    rw [datalen_eq_two.mpr (htwo.imp_left (⟨hstatus, ·⟩))]
    rfl
  · next htwo =>
    split
    · next hone =>
      have hrange : (0xC0 ≤ b.toNat ∧ b.toNat ≤ 0xDF) ∨ b = 0xF1 ∨ b = 0xF3 := hone.imp_left (by omega)
      rw [datalen_eq_one.mpr hrange]
      rfl
    · next hone =>
      have hrange : b = 0xF6 ∨ 0xF8 ≤ b.toNat := by
        rcases hlen with hzero | hrest | hrest
        · exact hzero
        · exact absurd (hrest.imp_left (by omega)) hone
        · exact absurd (hrest.imp_left (by omega)) htwo
      rw [datalen_eq_zero.mpr hrange]
      rfl

/-- A byte of a message, the `k`-th of `n`: a data byte inside the message and 0 past its end. -/
theorem messageByte_legal_iff {n k : Nat} {b : Byte} :
    (if k ≤ n then b.toNat < 0x80 else b = 0) ↔ ¬(k ≤ n ∧ 0x80 ≤ b.toNat) ∧ ¬(n < k ∧ b ≠ 0) := by
  split
  · next hin => simp [hin]
  · next hpast => simp [hpast, Nat.not_le.mp hpast]

/-- What MIDI_ENCODE's message check refuses (R415). -/
theorem midiWordLegal_false_iff {m : Word} :
    (m.extractLsb' 26 6 ≠ 0 ∨ (midiB0 m).toNat < 0x80 ∨
      (midiB0 m = 0xF0 ∨ midiB0 m = 0xF4 ∨ midiB0 m = 0xF5 ∨ midiB0 m = 0xF7) ∨ midiLen m ≠ messageLength (midiB0 m) ∨
      (2 ≤ midiLen m ∧ 0x80 ≤ (midiB1 m).toNat) ∨ (3 ≤ midiLen m ∧ 0x80 ≤ (midiB2 m).toNat) ∨
      (midiLen m < 2 ∧ midiB1 m ≠ 0) ∨ (midiLen m < 3 ∧ midiB2 m ≠ 0)) ↔ ¬midiWordLegal m = true := by
  rw [midiWordLegal_iff, messageByte_legal_iff, messageByte_legal_iff]
  by_cases hstatus : 0x80 ≤ (midiB0 m).toNat
  case neg => exact iff_of_true (.inr (.inl (Nat.not_le.mp hstatus))) fun h => hstatus h.2.1
  cases hsupported : midiUnsupported (midiB0 m) with
  | true => exact iff_of_true (.inr (.inr (.inl (of_decide_eq_true hsupported)))) (by simp)
  | false =>
    have hknown := of_decide_eq_false hsupported
    rw [datalen_succ hstatus hsupported, Option.some_inj]
    grind

/-- The bytes of a legal message by its length. -/
theorem midiBytes_of_legal {m : Word} (h : midiWordLegal m = true) :
    midiBytes m = if midiLen m = 1 then [midiB0 m] else if midiLen m = 2 then [midiB0 m, midiB1 m]
      else [midiB0 m, midiB1 m, midiB2 m] := by
  cases legalMessage_of_legal h with
  | whole | oneData | twoData =>
    rw [midiBytes, (midiWord_fields ..).1]
    rfl

end Sys2Proof.Machine
end

section
open Sys2Proof Sys2Proof.Machine

/-- Settles O24, check by check; past them the byte is fed. -/
theorem midiDecodeFeedsOneByte : Obligations.MidiDecodeFeedsOneByte := by
  refine ⟨rfl, ?_⟩
  intro s p e r room
  refine ite_of_eq_ite (execMidiDecode_eq s) id fun hexec => ?_
  refine ite_of_eq_ite hexec id fun hexec => ?_
  refine ite_of_eq_ite_iff isMidiPort_rx_false.symm hexec id fun hexec => ?_
  have hbyte : BitVec.ofNat 8 s.arg[1].toNat = s.arg[1].setWidth 8 := BitVec.ofNat_toNat 8 _
  have hr : r = feedByte s.ports[p].md (s.arg[1].setWidth 8) := congrArg (feedByte s.ports[p].md) hbyte
  rw [hr]
  exact hexec.trans (s.midiFeed_succeeds p _ _ _)

/-- Settles O27, check by check; past them the queue has a head. -/
theorem midiReadTakesTheOldestMessage : Obligations.MidiReadTakesTheOldestMessage := by
  refine ⟨rfl, ?_⟩
  intro s p e
  refine ite_of_eq_ite (execMidiRead.eq_def s) id fun hexec => ?_
  refine State.ite_of_argPort (fun hp => ?_) fun hp => ?_ <;> rw [hp] at hexec
  · exact hexec
  have hport := isMidiPort_rx_false (e := e)
  rw [← Bool.not_eq_true] at hport
  refine ite_of_eq_ite_not hport.symm hexec id fun hexec => ?_
  cases hmq : s.ports[p].mq with
  | nil =>
    rw [hmq] at hexec
    exact hexec
  | cons m rest =>
    rw [hmq] at hexec
    rintro _ _ ⟨⟩
    rw [← res_set_zero]
    exact hexec

/-- Settles O28, check by check. -/
theorem midiEncodeQueuesTheBytes : Obligations.MidiEncodeQueuesTheBytes := by
  refine ⟨rfl, ?_⟩
  intro s p e m n b0 b1 b2 length
  have hn : n = midiLen m := (midiLen_eq m).symm
  refine ite_of_eq_ite (execMidiEncode.eq_def s) id fun hexec => ?_
  refine State.ite_of_argPort (fun hp => ?_) fun hp => ?_ <;> rw [hp] at hexec
  · exact hexec
  have hport := isMidiPort_tx_false (e := e)
  rw [← Bool.not_eq_true] at hport
  refine ite_of_eq_ite_not hport.symm hexec id fun hexec => ?_
  rw [hn]
  have hcheck := midiWordLegal_false_iff (m := m)
  by_cases hlegal : midiWordLegal m = true
  case neg =>
    rw [if_neg hlegal] at hexec
    exact (if_pos (hcheck.mpr hlegal)).mpr hexec
  rw [if_pos hlegal] at hexec
  refine (if_neg (mt hcheck.mp (not_not.mpr hlegal))).mpr ?_
  refine ite_of_eq_ite hexec id fun hexec => ?_
  rw [midiBytes_of_legal hlegal] at hexec
  exact hexec

end

section
/-! PROOFS. How a host command ends: with a next state always, and with which errors (R452), what an error leaves
unchanged (R450, R14). For O50 and O51. -/

namespace Sys2Proof.Machine

/-! ### A command completes (R452) -/

/-- The command answers a next state, with OK or one of the errors `es`. -/
def CompletesWith (es : List ErrCode) (r : Result) : Prop := ∃ t, r = .next t ∧ (t.err = .ok ∨ t.err ∈ es)

section
variable {es : List ErrCode}

theorem CompletesWith.succeeds (s : State) : CompletesWith es s.succeeds := ⟨_, rfl, .inl rfl⟩

theorem CompletesWith.fails {s : State} {e : ErrCode} (he : e ∈ es) : CompletesWith es (s.fails e) :=
  ⟨_, rfl, .inr he⟩

/-- A check completes if both of its outcomes do. -/
theorem CompletesWith.ite {c : Prop} [Decidable c] {a b : Result} (ha : CompletesWith es a) (hb : CompletesWith es b) :
    CompletesWith es (if c then a else b) := by
  split
  · exact ha
  · exact hb

end

section
variable (s : State)

/-! The lifecycle commands and the ring commands. -/

theorem execOpenStream_completes : CompletesWith [.eState, .eArg] (execOpenStream s) := by
  refine .ite (.fails (by decide)) ?_
  split
  · exact .ite (.fails (by decide)) (.succeeds _)
  · exact .fails (by decide)

theorem execInit_completes : CompletesWith [.eState, .eArg, .eResource] (execInit s) := by
  refine .ite (.fails (by decide)) ?_
  split
  · exact .ite (.ite (.fails (by decide)) (.succeeds _)) (.fails (by decide))
  · exact .fails (by decide)

theorem execResume_completes : CompletesWith [.eState, .eArg] (execResume s) := by
  refine .ite (.fails (by decide)) ?_
  split
  · exact .succeeds _
  · exact .fails (by decide)

theorem execRbAdd_completes : CompletesWith [.eState, .eArg, .eTooLong, .eOverflow] (execRbAdd s) := by
  refine .ite (.fails (by decide)) ?_
  split
  · exact .fails (by decide)
  · exact .ite (.fails (by decide)) (.ite (.fails (by decide)) (.ite (.fails (by decide)) (.succeeds _)))

theorem execRbGet_completes : CompletesWith [.eState, .eArg, .eUnderflow, .eTooLong] (execRbGet s) := by
  refine .ite (.fails (by decide)) ?_
  split
  · exact .fails (by decide)
  · exact .ite (.fails (by decide)) (.ite (.fails (by decide)) (.succeeds _))

/-! The port table and the stream processor. -/

theorem execSetConfig_completes : CompletesWith [.eArg, .eConfig] (execSetConfig s) := by
  unfold execSetConfig
  split
  · split
    · exact .ite (.succeeds _) (.fails (by decide))
    · exact .fails (by decide)
  · exact .fails (by decide)

theorem execAddPort_completes : CompletesWith [.eState, .eArg, .ePort] (execAddPort s) := by
  refine .ite (.fails (by decide)) ?_
  split
  · exact .fails (by decide)
  · refine .ite (.fails (by decide)) (.ite (.fails (by decide)) (.ite (.fails (by decide)) ?_))
    exact .ite (.fails (by decide)) (.ite (.fails (by decide)) (.succeeds _))

theorem execRemovePort_completes : CompletesWith [.eState, .eArg, .ePort] (execRemovePort s) := by
  refine .ite (.fails (by decide)) ?_
  split
  · exact .fails (by decide)
  · exact .ite (.succeeds _) (.fails (by decide))

theorem execSpDemux_completes :
    CompletesWith [.eState, .eProtoShort, .eProtoDim, .eProtoLen] (execSpDemux s) := by
  refine .ite (.fails (by decide)) (.ite (.fails (by decide)) ?_)
  exact .ite (.fails (by decide)) (.ite (.fails (by decide)) (.succeeds _))

theorem execSpMux_completes : CompletesWith [.eState, .eArg, .eTooLong] (execSpMux s) := by
  refine .ite (.fails (by decide)) ?_
  split
  · exact .ite (.fails (by decide)) (.succeeds _)
  · exact .fails (by decide)

theorem execPortRead_completes : CompletesWith [.eState, .eArg, .ePort, .eUnderflow] (execPortRead s) := by
  refine .ite (.fails (by decide)) ?_
  split
  · exact .fails (by decide)
  · refine .ite ?_ (.fails (by decide))
    split
    · exact .fails (by decide)
    · exact .succeeds _

theorem execPortWrite_completes : CompletesWith [.eState, .eArg, .ePort, .eOverflow] (execPortWrite s) := by
  refine .ite (.fails (by decide)) ?_
  split
  · exact .fails (by decide)
  · exact .ite (.ite (.fails (by decide)) (.ite (.fails (by decide)) (.succeeds _))) (.fails (by decide))

/-! MIDI and the cycle timer. -/

theorem execMidiDecode_completes : CompletesWith [.eState, .eArg, .ePort] (execMidiDecode s) := by
  refine .ite (.fails (by decide)) ?_
  split
  · exact .ite (.succeeds _) (.fails (by decide))
  · exact .fails (by decide)

theorem execMidiRead_completes : CompletesWith [.eState, .eArg, .ePort, .eUnderflow] (execMidiRead s) := by
  refine .ite (.fails (by decide)) ?_
  split
  · exact .fails (by decide)
  · refine .ite ?_ (.fails (by decide))
    split
    · exact .fails (by decide)
    · exact .succeeds _

theorem execMidiEncode_completes :
    CompletesWith [.eState, .eArg, .ePort, .eMidi, .eOverflow] (execMidiEncode s) := by
  refine .ite (.fails (by decide)) ?_
  split
  · exact .fails (by decide)
  · exact .ite (.ite (.ite (.fails (by decide)) (.succeeds _)) (.fails (by decide))) (.fails (by decide))

theorem execCtReconstruct_completes : CompletesWith [.eArg] (execCtReconstruct s) := by
  unfold execCtReconstruct
  split
  · exact .ite (.ite (.succeeds _) (.fails (by decide))) (.fails (by decide))
  · exact .fails (by decide)

theorem execCtSytCheck_completes : CompletesWith [.eArg] (execCtSytCheck s) := by
  unfold execCtSytCheck
  split
  · exact .succeeds _
  · exact .fails (by decide)

end

/-- Every host command completes with OK or an error of its row of R452. No CMD word names an ISO transaction, since the
encoder gives the word back (R180, R185). -/
theorem exec_completes {w : Word} {i : Instr} (hi : decodeCmd w = .ok i) (s : State) :
    CompletesWith (commandErrors i) (exec i s) := by
  have hcmd := encode_of_decodeCmd hi
  cases i with
  | nop | ctTicksToCycles | ctFromTicks => exact .succeeds _
  | openStream => exact execOpenStream_completes s
  | init => exact execInit_completes s
  | start | stop | close | rbFillPackets | rbFillPayload => exact .ite (.succeeds _) (.fails (by decide))
  | resume => exact execResume_completes s
  | setConfig => exact execSetConfig_completes s
  | addPort => exact execAddPort_completes s
  | removePort => exact execRemovePort_completes s
  | rbAdd => exact execRbAdd_completes s
  | rbGet => exact execRbGet_completes s
  | spDemux => exact execSpDemux_completes s
  | spMux => exact execSpMux_completes s
  | portRead => exact execPortRead_completes s
  | portWrite => exact execPortWrite_completes s
  | midiDecode => exact execMidiDecode_completes s
  | midiRead => exact execMidiRead_completes s
  | midiEncode => exact execMidiEncode_completes s
  | ctCyclesToTicks => exact .ite (.fails (by decide)) (.succeeds _)
  | ctReconstruct => exact execCtReconstruct_completes s
  | ctToTicks => exact .ite (.succeeds _) (.fails (by decide))
  | ctSytCheck => exact execCtSytCheck_completes s
  | isoPut | isoGet | isoBusReset => cases hcmd

/-! ### An error is precise (R450) -/

theorem refusedAs.only_err {s t : State} (h : refusedAs s t) : t = { s with err := t.err } := by
  obtain ⟨e, -, rfl⟩ := h
  rfl

/-- A command that is refused or else succeeds changes nothing but STATUS.ERR when it ends with an error. -/
theorem only_err_of_refused_or {s t : State} {P : Prop} (h : refusedAs s t ∨ P) (hP : P → t.err = .ok)
    (herr : t.err ≠ .ok) : t = { s with err := t.err } :=
  h.elim refusedAs.only_err fun hdone => absurd (hP hdone) herr

theorem sameButResults.err {s t : State} (h : sameButResults s t) : t.err = .ok := by
  rw [h]

/-- RB_ADD with an error (R271). -/
theorem execRbAdd_precise {s t : State} (h : execRbAdd s = .next t) (herr : t.err ≠ .ok) :
    t = { s with err := t.err } ∨
    (t.err = .eOverflow ∧ t = { s with err := t.err, counters := s.counters.add .overflow 1 }) := by
  rcases execRbAdd_cases h with h | ⟨-, rfl⟩ | ⟨-, -, -, len, -, -, rfl⟩
  · exact .inl h.only_err
  · exact .inr ⟨rfl, rfl⟩
  · exact absurd rfl herr

/-- RB_GET with an error (R272). -/
theorem execRbGet_precise {s t : State} (h : execRbGet s = .next t) (herr : t.err ≠ .ok) :
    t = { s with err := t.err } ∨
    (t.err = .eUnderflow ∧ t = { s with err := t.err, counters := s.counters.add .underflow 1 }) := by
  rcases execRbGet_cases h with h | ⟨-, rfl⟩ | ⟨-, -, -, rfl⟩
  · exact .inl h.only_err
  · exact .inr ⟨rfl, rfl⟩
  · exact absurd rfl herr

/-- SP_DEMUX with an error: `proto(E)`, before or after `header(L)` (R366, R367). -/
theorem execSpDemux_precise {s t : State} (h : execSpDemux s = .next t) (herr : t.err ≠ .ok) :
    t = { s with err := t.err } ∨
    (t.cpktValid = false ∧
      t = { s with
            err := t.err, counters := s.counters.add .proto 1, cpktValid := false, lastCip0 := t.lastCip0,
            lastCip1 := t.lastCip1 }) := by
  rcases execSpDemux_cases h with h | ⟨-, -, -, ⟨e, -, rfl | rfl⟩ | ⟨N, -, rfl⟩⟩
  · exact .inl h.only_err
  · exact .inr ⟨rfl, rfl⟩
  · exact .inr ⟨rfl, rfl⟩
  · exact absurd rfl herr

/-- INIT with an error (R332, R337). -/
theorem execInit_precise {s t : State} (h : execInit s = .next t) (herr : t.err ≠ .ok) :
    t = { s with err := t.err } ∨ (t.err = .eResource ∧ t = { s.teardown with err := .eResource }) := by
  rcases execInit_cases h with h | ⟨-, rfl⟩ | ⟨-, hdr, cap, maxpkt, -, -, rfl⟩
  · exact .inl h.only_err
  · exact .inr ⟨rfl, rfl⟩
  · exact absurd rfl herr

end Sys2Proof.Machine
end

section
open Sys2Proof Sys2Proof.Machine

/-- Settles O50: the commands by `exec_completes`, the ISO transactions by the frame of their domain. -/
theorem commandsEndWithTheirOwnErrors : Obligations.CommandsEndWithTheirOwnErrors := by
  refine ⟨fun w i s hi => exec_completes hi s, fun r i s t hi h => ?_⟩
  obtain ⟨_, _, _, _, _, hframe, -⟩ := isoWritesOnlyItsOwnDomain r i s t hi h
  rw [hframe]

/-- Settles O51: four commands change more than STATUS.ERR, each by its own lemma; any other command is refused or
succeeds. -/
theorem errorsArePrecise : Obligations.ErrorsArePrecise := by
  intro w i s t hi h herr
  have hcmd := encode_of_decodeCmd hi
  cases i with
  | rbAdd => exact (execRbAdd_precise h herr).imp_right fun hadd => .inl ⟨rfl, hadd⟩
  | rbGet => exact (execRbGet_precise h herr).imp_right fun hget => .inr (.inl ⟨rfl, hget⟩)
  | spDemux => exact (execSpDemux_precise h herr).imp_right fun hproto => .inr (.inr (.inl ⟨rfl, hproto⟩))
  | init => exact (execInit_precise h herr).imp_right fun hdown => .inr (.inr (.inr ⟨rfl, hdown⟩))
  | isoPut | isoGet | isoBusReset => cases hcmd
  | nop => exact absurd (succeeds_next.mp h ▸ rfl) herr
  | openStream =>
    exact .inl (only_err_of_refused_or (execOpenStream_cases h) (fun ⟨_, _, _, _, _, ht⟩ => ht ▸ rfl) herr)
  | start => exact .inl (only_err_of_refused_or (execStart_cases h) (fun ⟨_, ht⟩ => ht ▸ rfl) herr)
  | stop => exact .inl (only_err_of_refused_or (execStop_cases h) (fun ⟨_, ht⟩ => ht ▸ rfl) herr)
  | close => exact .inl (only_err_of_refused_or (execClose_cases h) (fun ⟨_, ht⟩ => ht ▸ rfl) herr)
  | resume => exact .inl (only_err_of_refused_or (execResume_cases h) (fun ⟨_, _, ht⟩ => ht ▸ rfl) herr)
  | setConfig => exact .inl (only_err_of_refused_or (execSetConfig_cases h) (fun ⟨_, _, ht⟩ => ht ▸ rfl) herr)
  | addPort => exact .inl (only_err_of_refused_or (execAddPort_cases h) (fun ⟨_, _, _, _, _, ht⟩ => ht ▸ rfl) herr)
  | removePort => exact .inl (only_err_of_refused_or (execRemovePort_cases h) (fun ⟨_, _, ht⟩ => ht ▸ rfl) herr)
  | rbFillPackets => exact .inl (only_err_of_refused_or (execRbFillPackets_cases h) (fun ⟨_, ht⟩ => ht ▸ rfl) herr)
  | rbFillPayload => exact .inl (only_err_of_refused_or (execRbFillPayload_cases h) (fun ⟨_, ht⟩ => ht ▸ rfl) herr)
  | spMux => exact .inl (only_err_of_refused_or (execSpMux_cases h) (fun ⟨_, _, _, _, _, _, ht⟩ => ht ▸ rfl) herr)
  | portRead => exact .inl (only_err_of_refused_or (execPortRead_cases h) (fun ⟨_, _, _, _, _, _, ht⟩ => ht ▸ rfl) herr)
  | portWrite =>
    exact .inl (only_err_of_refused_or (execPortWrite_cases h) (fun ⟨_, _, _, _, _, _, ht⟩ => ht ▸ rfl) herr)
  | midiDecode =>
    exact .inl (only_err_of_refused_or (execMidiDecode_cases h) (fun ⟨_, _, _, _, _, _, _, ht⟩ => ht ▸ rfl) herr)
  | midiRead => exact .inl (only_err_of_refused_or (execMidiRead_cases h) (fun ⟨_, _, _, _, _, _, ht⟩ => ht ▸ rfl) herr)
  | midiEncode =>
    exact .inl (only_err_of_refused_or (execMidiEncode_cases h) (fun ⟨_, _, _, _, _, _, ht⟩ => ht ▸ rfl) herr)
  | ctTicksToCycles => exact absurd (execCtTicksToCycles_cases h).err herr
  | ctCyclesToTicks => exact .inl (only_err_of_refused_or (execCtCyclesToTicks_cases h) sameButResults.err herr)
  | ctReconstruct => exact .inl (only_err_of_refused_or (execCtReconstruct_cases h) sameButResults.err herr)
  | ctToTicks => exact .inl (only_err_of_refused_or (execCtToTicks_cases h) (fun ⟨_, ht⟩ => ht.err) herr)
  | ctFromTicks => exact absurd (execCtFromTicks_cases h).err herr
  | ctSytCheck => exact .inl (only_err_of_refused_or (execCtSytCheck_cases h) (fun ⟨_, _, ht⟩ => ht.err) herr)

end

section
/-! PROOFS. Which host accesses get a bus error (R457), and which steps stop (R456). For O45 and O49. -/

namespace Sys2Proof.Machine

/-! ### Bad host accesses (R457) -/

/-- An unaligned offset and an offset that R52 does not list name no register (R131). -/
theorem csrAt_eq_none {p : Params} {off : Nat}
    (h : off % 4 ≠ 0 ∨ ∀ r, csrExists p r = true → csrOffset r ≠ off) : csrAt p off = none := by
  rcases h with halign | hlisted
  · exact if_pos halign
  · refine Option.eq_none_iff_forall_ne_some.mpr fun r hr => ?_
    obtain ⟨hexists, hoff⟩ := csrAt_sound hr
    exact hlisted r hexists hoff

theorem State.hostRead_busError {s : State} {bits off : Nat} (h : bits ≠ 32 ∨ csrAt s.params off = none) :
    s.hostRead bits off = s.answer .busError := by
  unfold State.hostRead
  split
  · rfl
  · next hbits => rw [h.resolve_left hbits]

/-- A host write that is no 32-bit access of CMD or of a register that takes the value gets a bus error. -/
theorem State.hostWrite_busError {s : State} {bits off : Nat} {v : Word}
    (h : bits = 32 → ∀ r, csrAt s.params off = some r → r ≠ .cmd ∧ s.writeCsr r v = none) :
    s.hostWrite bits off v = .next (s.answer .busError) := by
  unfold State.hostWrite
  split
  · rfl
  · next hbits =>
    replace h := h (not_not.mp hbits)
    split
    · rfl
    · next hr => exact absurd rfl (h _ hr).1
    · next hr => rw [(h _ hr).2]

/-- The same for an offset known to be a register's. -/
theorem State.hostWrite_refused {s : State} {bits : Nat} {r : Csr} {v : Word} (hr : csrExists s.params r = true)
    (hcmd : r ≠ .cmd) (hv : s.writeCsr r v = none) :
    s.hostWrite bits (csrOffset r) v = .next (s.answer .busError) := by
  refine State.hostWrite_busError fun _ q hq => ?_
  obtain rfl : r = q := Option.some.inj ((csrAt_csrOffset hr).symm.trans hq)
  exact ⟨hcmd, hv⟩

/-- A read-only register is not CMD and takes no value (R52). -/
theorem State.writeCsr_readOnly {r : Csr} (hr : csrWritable r = false) (s : State) (v : Word) :
    r ≠ .cmd ∧ s.writeCsr r v = none := by
  cases r with
  | cmd | arg | supported | txCip | txIso | txb => cases hr
  | _ => exact ⟨Csr.noConfusion, rfl⟩

/-- A field that a mask covers is 0 where the masked word is. -/
theorem extract_of_and_eq_zero {v mask : Word} {i l : Nat} (h : v &&& mask = 0)
    (hmask : mask.extractLsb' i l = BitVec.allOnes l) : v.extractLsb' i l = 0 := by
  refine extract_of_getLsbD fun j hj => ?_
  have hbit : mask.getLsbD (i + j) = true := by
    have hone := congrArg (fun x => BitVec.getLsbD x j) hmask
    simpa [hj] using hone
  have hzero := congrArg (fun x => BitVec.getLsbD x (i + j)) h
  simpa [hbit] using hzero

theorem supportedReserved_set {v : Word} (h : v.extractLsb' 9 23 ≠ 0) : v &&& supportedReserved ≠ 0 :=
  fun hclear => h (extract_of_and_eq_zero hclear (by decide))

theorem txCipReserved_set {v : Word} (h : v.extractLsb' 6 2 ≠ 0 ∨ v.extractLsb' 14 2 ≠ 0 ∨ v.extractLsb' 24 8 ≠ 0) :
    v &&& txCipReserved ≠ 0 := by
  intro hclear
  rcases h with h | h | h
  · exact h (extract_of_and_eq_zero hclear (by decide))
  · exact h (extract_of_and_eq_zero hclear (by decide))
  · exact h (extract_of_and_eq_zero hclear (by decide))

theorem txIsoReserved_set {v : Word} (h : v.extractLsb' 2 2 ≠ 0 ∨ v.extractLsb' 8 24 ≠ 0) :
    v &&& txIsoReserved ≠ 0 := by
  intro hclear
  rcases h with h | h
  · exact h (extract_of_and_eq_zero hclear (by decide))
  · exact h (extract_of_and_eq_zero hclear (by decide))

/-- SUPPORTED refuses a reserved bit (R55, R457). -/
theorem State.hostWrite_supported_refused {s : State} {bits : Nat} {v : Word} (h : v &&& supportedReserved ≠ 0) :
    s.hostWrite bits 0x0060 v = .next (s.answer .busError) :=
  State.hostWrite_refused (r := .supported) rfl Csr.noConfusion (if_neg h)

/-- TX_CIP refuses a reserved bit, and any value while RUNNING (R56, R457). -/
theorem State.hostWrite_txCip_refused {s : State} {bits : Nat} {v : Word}
    (h : v &&& txCipReserved ≠ 0 ∨ s.lc = .running) : s.hostWrite bits 0x0064 v = .next (s.answer .busError) :=
  State.hostWrite_refused (r := .txCip) rfl Csr.noConfusion
    (if_neg fun ⟨hclear, hlc⟩ => h.elim (absurd hclear) hlc)

/-- TX_ISO refuses a reserved bit, and any value while RUNNING (R57, R457). -/
theorem State.hostWrite_txIso_refused {s : State} {bits : Nat} {v : Word}
    (h : v &&& txIsoReserved ≠ 0 ∨ s.lc = .running) : s.hostWrite bits 0x0068 v = .next (s.answer .busError) :=
  State.hostWrite_refused (r := .txIso) rfl Csr.noConfusion
    (if_neg fun ⟨hclear, hlc⟩ => h.elim (absurd hclear) hlc)

/-! ### Which requests stop (R456) -/

/-- The next request is an ISO transaction of the reserved kind (IF_KIND, R456). -/
def State.asksReservedKind (s : State) : Prop := ∃ r rest, s.input = .iso r :: rest ∧ r.kind = 3

/-- The next request is an enabled ISO_GET without room for a CIP header (IF_MAXLEN, R311, R456). -/
def State.asksShortGet (s : State) : Prop :=
  ∃ r rest, s.input = .iso r :: rest ∧ r.kind = 1 ∧ r.maxLength.toNat < 8 ∧
    s.lc = .running ∧ s.brp = false ∧ s.dir = .tx

/-- The next request is an ISO_PUT longer than R185 has it (log 10). -/
def State.asksLongPut (s : State) : Prop :=
  ∃ r rest, s.input = .iso r :: rest ∧ r.kind = 0 ∧ 65535 < r.data.length

theorem isoKind_cases (k : BitVec 2) : k = 0 ∨ k = 1 ∨ k = 2 ∨ k = 3 := by
  revert k
  decide

section
variable {r : IsoRecord}

/-! The decoder of ISO transactions by kind (R185). -/

theorem decodeIso_put (hkind : r.kind = 0) (hlen : r.data.length ≤ 65535) :
    decodeIso r = .ok (.isoPut r.data r.channel r.tag r.sy r.cycle r.dropped r.ctr) :=
  (if_pos hkind).trans (if_pos hlen)

theorem decodeIso_longPut (hkind : r.kind = 0) (hlen : 65535 < r.data.length) :
    decodeIso r = .error .lengthOutOfRange :=
  (if_pos hkind).trans (if_neg (Nat.not_le.mpr hlen))

theorem decodeIso_get (hkind : r.kind = 1) : decodeIso r = .ok (.isoGet r.cycle r.dropped r.maxLength) := by
  simp [decodeIso, hkind]

theorem decodeIso_busReset (hkind : r.kind = 2) : decodeIso r = .ok .isoBusReset := by
  simp [decodeIso, hkind]

theorem decodeIso_reserved (hkind : r.kind = 3) : decodeIso r = .error .reservedKind := by
  simp [decodeIso, hkind]

end

/-! The three requests that stop. -/

theorem step_of_reservedKind {s : State} (h : s.asksReservedKind) : step s = .fault .ifKind := by
  obtain ⟨r, rest, hin, hkind⟩ := h
  rw [step_of_request hin, State.perform, State.isoTransaction, decodeIso_reserved hkind]

theorem step_of_shortGet {s : State} (h : s.asksShortGet) : step s = .fault .ifMaxLen := by
  obtain ⟨r, rest, hin, hkind, hshort, hen⟩ := h
  rw [step_of_request hin, State.perform, State.isoTransaction_of_decode (decodeIso_get hkind)]
  exact execIsoGet_of_short (cycle := r.cycle) (State.getEnabled_iff.mpr hen) hshort

theorem step_of_longPut {s : State} (h : s.asksLongPut) : step s = .refused .noSuchTransaction := by
  obtain ⟨r, rest, hin, hkind, hlen⟩ := h
  rw [step_of_request hin, State.perform, State.isoTransaction, decodeIso_longPut hkind hlen]

/-! Every other request goes on. -/

theorem State.writeCmd_next (s : State) (w : Word) : ∃ t, s.writeCmd w = .next t := by
  unfold State.writeCmd
  dsimp only
  split
  · next i hi =>
    obtain ⟨t, ht, -⟩ := exec_completes hi ({ s with cmd := w }.answer .written)
    exact ⟨t, ht⟩
  · exact ⟨_, rfl⟩

theorem State.hostWrite_next (s : State) (bits off : Nat) (v : Word) : ∃ t, s.hostWrite bits off v = .next t := by
  unfold State.hostWrite
  split
  · exact ⟨_, rfl⟩
  · split
    · exact ⟨_, rfl⟩
    · exact s.writeCmd_next v
    · split
      · exact ⟨_, rfl⟩
      · exact ⟨_, rfl⟩

theorem execIsoPut_next (data : List Byte) (channel : BitVec 6) (tag : BitVec 2) (sy : BitVec 4) (cycle : BitVec 13)
    (dropped ctr : Word) (s : State) : ∃ t, execIsoPut data channel tag sy cycle dropped ctr s = .next t := by
  unfold execIsoPut
  split
  · exact ⟨_, rfl⟩
  · exact ⟨_, rfl⟩

theorem execIsoBusReset_next (s : State) : ∃ t, execIsoBusReset s = .next t := by
  unfold execIsoBusReset
  split
  · exact ⟨_, rfl⟩
  · exact ⟨_, rfl⟩

/-- How a step ends: it goes on, or it stops for one of three requests. -/
inductive StepEnd (s : State) : Result → Prop
  | goesOn (t : State) : StepEnd s (.next t)
  | reservedKind (h : s.asksReservedKind) : StepEnd s (.fault .ifKind)
  | shortGet (h : s.asksShortGet) : StepEnd s (.fault .ifMaxLen)
  | longPut (h : s.asksLongPut) : StepEnd s (.refused .noSuchTransaction)

theorem StepEnd.of_next {s : State} {r : Result} (h : ∃ t, r = .next t) : StepEnd s r := by
  obtain ⟨t, rfl⟩ := h
  exact .goesOn t

/-- An ISO transaction by its kind (R185, R456). -/
theorem isoTransaction_end {s : State} {r : IsoRecord} {rest : List Request} (hin : s.input = .iso r :: rest) :
    StepEnd s (step s) := by
  have hrun {i : Instr} (hi : decodeIso r = .ok i) : step s = exec i (s.begin rest) :=
    (step_of_request hin).trans (State.isoTransaction_of_decode hi)
  rcases isoKind_cases r.kind with hkind | hkind | hkind | hkind
  · by_cases hlen : r.data.length ≤ 65535
    · rw [hrun (decodeIso_put hkind hlen)]
      exact .of_next (execIsoPut_next ..)
    · have hlong : s.asksLongPut := ⟨r, rest, hin, hkind, Nat.not_le.mp hlen⟩
      rw [step_of_longPut hlong]
      exact .longPut hlong
  · by_cases hen : s.lc = .running ∧ s.brp = false ∧ s.dir = .tx
    · by_cases hshort : r.maxLength.toNat < 8
      · have hget : s.asksShortGet := ⟨r, rest, hin, hkind, hshort, hen⟩
        rw [step_of_shortGet hget]
        exact .shortGet hget
      · rw [hrun (decodeIso_get hkind)]
        exact .of_next ⟨_, execIsoGet_of_room (cycle := r.cycle) (State.getEnabled_iff.mpr hen) (Nat.not_lt.mp hshort)⟩
    · rw [hrun (decodeIso_get hkind)]
      exact .of_next ⟨_, if_neg fun h => hen (State.getEnabled_iff.mp h)⟩
  · rw [hrun (decodeIso_busReset hkind)]
    exact .of_next (execIsoBusReset_next _)
  · have hreserved : s.asksReservedKind := ⟨r, rest, hin, hkind⟩
    rw [step_of_reservedKind hreserved]
    exact .reservedKind hreserved

/-- Only an ISO transaction can stop the block: no host access, SYNC copy or hardware reset does (R456). -/
theorem step_end (s : State) : StepEnd s (step s) := by
  cases hin : s.input with
  | nil => exact .of_next ⟨_, step_of_idle hin⟩
  | cons q rest =>
    cases q with
    | iso r => exact isoTransaction_end hin
    | hostWrite bits off v =>
      rw [step_of_request hin]
      exact .of_next ((s.begin rest).hostWrite_next bits off v)
    | hostRead | sync | hwReset =>
      rw [step_of_request hin]
      exact .of_next ⟨_, rfl⟩

end Sys2Proof.Machine
end

section
open Sys2Proof Sys2Proof.Machine

/-- Settles O45: no register stands at the offset, or the one that does refuses the value. -/
theorem badAccessesGetABusError : Obligations.BadAccessesGetABusError := by
  constructor
  · intro s bits off rest hin h
    rw [step_of_request hin]
    exact congrArg Host.Outcome.next (State.hostRead_busError (s := s.begin rest) (h.imp_right csrAt_eq_none))
  · intro s bits off v rest hin h
    rw [step_of_request hin]
    have hunmapped (hnone : csrAt s.params off = none) :
        (s.begin rest).hostWrite bits off v = .next ((s.begin rest).answer .busError) :=
      State.hostWrite_busError (s := s.begin rest) fun _ r hr => nomatch hnone.symm.trans hr
    rcases h with hbits | halign | hlisted | ⟨r, hr, rfl, hro⟩ | ⟨rfl, hv⟩ | ⟨rfl, hv⟩ | ⟨rfl, hv⟩ | ⟨rfl | rfl, hlc⟩
    · exact State.hostWrite_busError (s := s.begin rest) fun h32 => absurd h32 hbits
    · exact hunmapped (csrAt_eq_none (.inl halign))
    · exact hunmapped (csrAt_eq_none (.inr hlisted))
    · obtain ⟨hcmd, hv⟩ := (s.begin rest).writeCsr_readOnly hro v
      exact State.hostWrite_refused (s := s.begin rest) hr hcmd hv
    · exact State.hostWrite_supported_refused (supportedReserved_set hv)
    · exact State.hostWrite_txCip_refused (.inl (txCipReserved_set hv))
    · exact State.hostWrite_txIso_refused (.inl (txIsoReserved_set hv))
    · exact State.hostWrite_txCip_refused (s := s.begin rest) (.inr hlc)
    · exact State.hostWrite_txIso_refused (s := s.begin rest) (.inr hlc)

/-- Settles O49: each request that stops is evaluated, and `step_end` says that no other does. -/
theorem onlyTheInterfaceFaultsStop : Obligations.OnlyTheInterfaceFaultsStop := by
  intro s
  have hend := step_end s
  refine ⟨⟨fun h => ?_, step_of_reservedKind⟩, ⟨fun h => ?_, step_of_shortGet⟩, fun x => ⟨fun h => ?_, ?_⟩⟩
  · rw [h] at hend
    cases hend with
    | reservedKind hreserved => exact hreserved
  · rw [h] at hend
    cases hend with
    | shortGet hget => exact hget
  · rw [h] at hend
    cases hend with
    | longPut hput => exact ⟨rfl, hput⟩
  · rintro ⟨rfl, hput⟩
    exact step_of_longPut hput

end

section
/-! PROOFS. The state after the hardware reset: its step (R500), its reads register by register (R52), and its
invariants. For O48 and O55. -/

namespace Sys2Proof.Machine

/-! ### The step of a hardware reset -/

/-- The reset is performed on what `begin` leaves, so its answer keeps the rest of the list and the renewed number. -/
theorem step_of_hwReset {s : State} {rest : List Request} (h : s.input = .hwReset :: rest) :
    step s = .next { State.resetOf s.params with input := rest, draw := s.draw + 1, resp := .none } := by
  rw [step_of_request h]
  rfl

/-! ### Packed parameter words -/

/-- A number that fits its field stands below the fields above it. -/
theorem append_ofNat {n m v : Nat} (x : BitVec n) (h : v < 2 ^ m) :
    x ++ BitVec.ofNat m v = BitVec.ofNat (n + m) (v + 2 ^ m * x.toNat) := by
  have hword : (x ++ BitVec.ofNat m v).toNat = v + 2 ^ m * x.toNat := by
    rw [toNat_append_add, BitVec.toNat_ofNat, Nat.mod_eq_of_lt h, Nat.add_comm, Nat.mul_comm]
  rw [← hword, BitVec.ofNat_toNat, BitVec.setWidth_eq]

/-- PARAM2, PARAM3 and PARAM4 pack two numbers of 16 bits (R52). -/
theorem halves_ofNat {hi lo : Nat} (hhi : hi < 2 ^ 16) (hlo : lo < 2 ^ 16) :
    (BitVec.ofNat 16 hi ++ BitVec.ofNat 16 lo : Word) = BitVec.ofNat 32 (lo + 65536 * hi) := by
  rw [append_ofNat _ hlo, BitVec.toNat_ofNat, Nat.mod_eq_of_lt hhi]
  rfl

/-- PARAM0 packs P_NPORTS below P_WRAP_MODE (R52). -/
theorem param0_ofNat (m : WrapMode) {n : Nat} (hn : n < 2 ^ 8) :
    (0#23 ++ wrapModeCode m ++ BitVec.ofNat 8 n : Word) = BitVec.ofNat 32 (n + 256 * (wrapModeCode m).toNat) := by
  rw [append_ofNat _ hn, toNat_append_add, BitVec.toNat_ofNat, Nat.zero_mod, Nat.zero_mul, Nat.zero_add]
  rfl

/-! ### What reads after reset -/

@[simp] theorem State.resetOf_port (p : Params) (q : Fin 64) : (State.resetOf p).ports[q] = Port.empty := by
  simp [State.resetOf]

/-- No port is enabled after reset, whatever the parameters (R67). -/
theorem State.resetOf_portEnabled (p : Params) (q : Fin 64) : (State.resetOf p).portEnabled q = false := by
  rw [State.portEnabled, State.resetOf_port]
  exact Bool.and_false _

theorem State.resetOf_portWord (p : Params) (q : Fin 64) : (State.resetOf p).portWord q = 0 := by
  rw [State.portWord, State.resetOf_port, State.resetOf_portEnabled]
  rfl

/-- STATUS looks at none of the parameters. -/
theorem State.resetOf_statusWord (p : Params) : (State.resetOf p).statusWord = 0 :=
  calc (State.resetOf p).statusWord
    _ = State.reset.statusWord := rfl
    _ = 0 := by decide

theorem Port.empty_statWord : Port.empty.statWord = 0 := by decide

/-- Every register reads as R52's reset column says; the legal ranges of R7 make the parameters fit their fields. -/
theorem State.resetOf_readCsr {p : Params} {r : Csr} {v : Word} (hlegal : p.legal) (h : csrResetValue p r = some v) :
    (State.resetOf p).readCsr r = v := by
  obtain ⟨-, ⟨-, hcap⟩, ⟨-, hmax, -⟩, ⟨-, hports⟩, ⟨-, hdepth⟩, ⟨-, hmsg⟩, -, htx⟩ := hlegal
  cases r with
  | txb a => cases h
  | param0 => exact (param0_ofNat p.wrapMode (n := p.nPorts) (by omega)).trans (Option.some.inj h)
  | param2 =>
    exact (halves_ofNat (hi := p.maxPktLimit) (lo := p.capMax) (by omega) (by omega)).trans (Option.some.inj h)
  | param3 =>
    exact (halves_ofNat (hi := p.midiMsgDepth) (lo := p.portDepth) (by omega) (by omega)).trans (Option.some.inj h)
  | param4 => exact (halves_ofNat (hi := 0) (lo := p.midiTxDepth) (by omega) (by omega)).trans (Option.some.inj h)
  | status => exact (State.resetOf_statusWord p).trans (Option.some.inj h)
  | arg i => exact (Vector.getElem_replicate i.isLt).trans (Option.some.inj h)
  | res i => exact (Vector.getElem_replicate i.isLt).trans (Option.some.inj h)
  | port q => exact (State.resetOf_portWord p q).trans (Option.some.inj h)
  | portStat q =>
    have hport : (State.resetOf p).ports[q].statWord = 0 := by rw [State.resetOf_port, Port.empty_statWord]
    exact hport.trans (Option.some.inj h)
  | counter k => cases k <;> exact Option.some.inj h
  | _ => exact Option.some.inj h

/-! ### The invariants after reset -/

theorem State.resetOf_memoriesCanonical (p : Params) : (State.resetOf p).memoriesCanonical :=
  ⟨.nil, .nil, .nil⟩

/-- The reset values of SUPPORTED, TX_CIP and TX_ISO set no reserved bit (R55, R56, R57). -/
theorem State.resetOf_reservedBitsClear (p : Params) : (State.resetOf p).reservedBitsClear :=
  ⟨(by decide : (1 : Word) &&& supportedReserved = 0), (by decide : (0 : Word) &&& txCipReserved = 0),
    (by decide : (1 : Word) &&& txIsoReserved = 0)⟩

theorem State.resetOf_ringSafe {p : Params} (hlegal : p.legal) : (State.resetOf p).ringSafe :=
  ringSafe_of_cleared hlegal rfl rfl rfl rfl rfl rfl rfl rfl

/-- CPKT_VALID is clear after reset, so no packet is announced. -/
theorem State.resetOf_fetchedHeld (p : Params) : (State.resetOf p).fetchedHeld :=
  fun hvalid => Bool.noConfusion hvalid

end Sys2Proof.Machine
end

section
open Sys2Proof Sys2Proof.Machine

/-- Settles O48: the reads by `State.resetOf_readCsr`; the next state, written out field by field there, is
`step_of_hwReset`'s. -/
theorem hardwareResetClearsTheBlock : Obligations.HardwareResetClearsTheBlock :=
  ⟨fun _ _ _ => State.resetOf_readCsr, fun _ _ => step_of_hwReset⟩

/-- Settles O55: each invariant of the reset state, the ring's and the table's because they are cleared. -/
theorem resetKeepsTheInvariants : Obligations.ResetKeepsTheInvariants := by
  refine ⟨by decide, rfl, fun p hlegal => ?_⟩
  have hring : (State.resetOf p).ringSafe := State.resetOf_ringSafe hlegal
  exact ⟨State.resetOf_memoriesCanonical p, State.resetOf_reservedBitsClear p, hring, State.resetOf_fetchedHeld p,
    portsSound_of_cleared rfl, hring.packets_eq_nil rfl⟩

end

section
/-! PROOFS. The canonical form of TXB, RING and META: the ring's moves keep it for RING and META, the commands' writes
keep it for TXB. For O56. -/

namespace Sys2Proof.Machine

/-! ### RING and META -/

/-- What `State.memoriesCanonical` says of the ring's own memories. -/
def State.ringCanonical (s : State) : Prop := s.ring.wf ∧ risingKeys s.slotMeta

theorem State.memoriesCanonical_iff (s : State) : s.memoriesCanonical ↔ s.txb.wf ∧ s.ringCanonical := Iff.rfl

theorem sameRing.ringCanonical {s t : State} (h : sameRing s t) (hs : s.ringCanonical) : t.ringCanonical := by
  have hring : t.ring = s.ring := congrArg RingView.ring h
  have hmeta : t.slotMeta = s.slotMeta := congrArg RingView.slotMeta h
  rw [State.ringCanonical, hring, hmeta]
  exact hs

/-- Only an add writes RING and META (R123), and only the hardware reset empties them (R500). -/
theorem RingMove.keeps_ringCanonical {s t : State} (h : RingMove s t) (hs : s.ringCanonical) : t.ringCanonical := by
  cases h with
  | keeps h => exact h.ringCanonical hs
  | adds b tag sy cycle ctr _ _ _ _ h =>
    obtain ⟨hring, hmeta⟩ := hs
    exact h.ringCanonical ⟨writeBytes_rising hring _ _, insertAt_rising hmeta _ _⟩
  | syncs x hx h =>
    rcases hx with rfl | rfl
    · exact h.ringCanonical hs
    · exact h.ringCanonical hs
  | drops _ _ h => exact h.ringCanonical hs
  | opens _ h => exact h.ringCanonical hs
  | inits _ _ _ _ _ _ h => exact h.ringCanonical hs
  | tearsDown h => exact h.ringCanonical hs
  | resets h => exact h.ringCanonical ⟨.nil, .nil⟩

theorem step_ringCanonical {s t : State} (hs : s.ringCanonical) (h : step s = .next t) : t.ringCanonical := by
  obtain ⟨u, hsame, hmove⟩ := step_ringMove h
  exact hmove.keeps_ringCanonical (hsame.ringCanonical hs)

/-! ### TXB -/

theorem State.fillSlot_of_reserved {s : State} {p : Fin 64} (htype : entryType s.ports[p].entry = .reserved)
    (base : Nat) : s.fillSlot base p = s := by
  unfold State.fillSlot
  dsimp only
  rw [htype]

/-- Filling a slot is at most one write to TXB (R371). -/
theorem State.fillSlot_txbCanonical {s : State} (hs : s.txb.wf) (base : Nat) (p : Fin 64) :
    (s.fillSlot base p).txb.wf := by
  by_cases htype : entryType s.ports[p].entry = .reserved
  · rw [State.fillSlot_of_reserved htype]
    exact hs
  · rw [State.fillSlot_eq htype]
    exact writeBytes_rising hs _ _

theorem State.muxBlocks_txbCanonical {s : State} (hs : s.txb.wf) (B N : Nat) : (s.muxBlocks B N).txb.wf := by
  refine State.forBlocks_keeps (fun t => t.txb.wf) _ (fun t k ht => ?_) s N hs
  refine State.forPorts_keeps (fun t => t.txb.wf) _ (fun u p hu => ?_) t ht
  split
  · exact State.fillSlot_txbCanonical hu _ p
  · exact hu

/-- SP_MUX clears the packet, writes its header and fills its slots (R370). -/
theorem State.muxPacket_txbCanonical {s : State} (hs : s.txb.wf) (N : Nat) (y : BitVec 16) :
    (s.muxPacket N y).txb.wf :=
  State.muxBlocks_txbCanonical (s := s.muxStart N y) (writeBytes_rising (writeBytes_rising hs _ _) _ _) _ N

/-- Of the other commands RB_GET alone writes TXB (R272). -/
theorem ControlMove.keeps_txbCanonical {i : Instr} {e : ErrCode} {c d : Control} (h : ControlMove i e c d)
    (hi : i ≠ .spMux) (hc : c.txb.wf) : d.txb.wf := by
  cases h with
  | fetches => exact writeBytes_rising hc _ _
  | muxes => exact absurd rfl hi
  | _ => exact hc

theorem execSpMux_txbCanonical {s t : State} (hs : s.txb.wf) (h : execSpMux s = .next t) : t.txb.wf := by
  rcases execSpMux_cases h with ⟨e, -, rfl⟩ | ⟨-, -, n, y, v, -, rfl⟩
  · exact hs
  · exact State.muxPacket_txbCanonical hs n.toNat y

theorem exec_txbCanonical {i : Instr} {s t : State} (hs : s.txb.wf) (h : exec i s = .next t) : t.txb.wf := by
  by_cases hi : i = .spMux
  · subst hi
    exact execSpMux_txbCanonical hs h
  · exact (exec_controlMove h).keeps_txbCanonical hi hs

theorem RegisterWrite.keeps_txbCanonical {r : Csr} {v : Word} {c d : Control} (h : RegisterWrite r v c d)
    (hc : c.txb.wf) : d.txb.wf := by
  cases h with
  | txb => exact writeBytes_rising hc _ _
  | _ => exact hc

theorem State.hostWrite_txbCanonical {s t : State} {bits off : Nat} {v : Word} (hs : s.txb.wf)
    (h : s.hostWrite bits off v = .next t) : t.txb.wf := by
  rcases State.hostWrite_cases h with rfl | ⟨i, -, h⟩ | rfl | ⟨r, u, -, hu, rfl⟩
  · exact hs
  · exact exec_txbCanonical (s := State.answer { s with cmd := v } .written) hs h
  · exact hs
  · exact (State.writeCsr_control hu).keeps_txbCanonical hs

theorem State.perform_txbCanonical {s t : State} {q : Request} (hs : s.txb.wf) (h : s.perform q = .next t) :
    t.txb.wf := by
  cases q with
  | hostRead bits off =>
    obtain ⟨r, hr⟩ := s.hostRead_cases bits off
    cases h
    rw [hr]
    exact hs
  | hostWrite bits off v => exact State.hostWrite_txbCanonical hs h
  | iso r =>
    obtain ⟨i, -, h⟩ := State.isoTransaction_cases h
    exact exec_txbCanonical hs h
  | sync x =>
    cases h
    have htxb : (s.sync x).txb = s.txb := congrArg Control.txb (s.sync_control x)
    rw [htxb]
    exact hs
  | hwReset =>
    cases h
    exact .nil

theorem step_txbCanonical {s t : State} (hs : s.txb.wf) (h : step s = .next t) : t.txb.wf := by
  rcases step_cases h with ⟨-, rfl⟩ | ⟨q, rest, -, h⟩
  · exact hs
  · exact State.perform_txbCanonical (s := s.begin rest) hs h

end Sys2Proof.Machine
end

section
open Sys2Proof Sys2Proof.Machine

/-- Settles O56: TXB by what each request writes to it, RING and META by the ring's move of the step. -/
theorem stepKeepsTheMemoriesCanonical : Obligations.StepKeepsTheMemoriesCanonical := by
  intro s t hs h
  obtain ⟨htxb, hring⟩ := s.memoriesCanonical_iff.mp hs
  exact t.memoriesCanonical_iff.mpr ⟨step_txbCanonical htxb h, step_ringCanonical hring h⟩

end
